-- ==== Sys2Proof/Word.lean ====
section
/-! DEFINITION. The word type of the block. Every value the block computes with is a byte (00_scope.md rule R7: "A byte
is 8 bits", every value is unsigned). -/

namespace Sys2Proof

/-- One byte of a frame, a response, a message or a data block (R7). -/
abbrev Byte := BitVec 8

end Sys2Proof
end

