-- ==== Sys2Proof/Config.lean ====
section
/-! DEFINITION. What an implementation fixes or the spec leaves open: the clock divisor type, the open parameters, and
the free values. -/

namespace Sys2Proof

/-- A clock divisor. The spec takes `Div` as an opaque type (10_state.md R28, 92_eei_decisions.md D37): a divisor is here
a token, and nothing in the model reads the number inside. DESIGN CHOICE, notes/assumptions/11.md. -/
structure Div where
  token : Nat
deriving DecidableEq, Repr, Inhabited

/-- The model arguments of 00_scope.md R5 and R6. A value of this type stands in State, so that a statement about every
state covers every value of them. DESIGN CHOICE, notes/assumptions/12.md. -/
structure Params where
  /-- PREAMBLE_CLOCKS (OPEN, default 0): idle clocks INIT emits before the first command. -/
  preambleClocks : Nat
  /-- DRAIN_CRC (OPEN, default false): whether RDBLK takes the two checksum bytes after the data block. -/
  drainCrc : Bool
  /-- NEG_ATTEMPTS, 3000 in the document. -/
  negAttempts : Nat
  /-- TOKEN_POLLS, 3000 in the document. -/
  tokenPolls : Nat
deriving DecidableEq, Repr, Inhabited

namespace Config

/-- The values the spec gives: R5 (3000 and 3000) and the defaults of R6. -/
def defaultParams : Params :=
  { preambleClocks := 0, drainCrc := false, negAttempts := 3000, tokenPolls := 3000 }

/-- The free continuation of the input stream RX, indexed by the position of the byte in the stream (R10: the oracle
"may answer any byte at any position"). DESIGN CHOICE of form, notes/assumptions/4.md. -/
opaque rxTail : Nat → BitVec 8

/-- The draws of the spec (R154, R155; 00_scope.md R12 "draw"), indexed by the counter DRAW of State.
DESIGN CHOICE of form, notes/assumptions/8.md. -/
opaque freeByte : Nat → BitVec 8

end Config

end Sys2Proof
end

