-- ==== Sys2Proof/Machine/Constants.lean ====
section
/-! DEFINITION. The fixed constants of the block, 00_scope.md rule R5. Those marked PRESUMED are the spec's own general
knowledge (93_implementation_defined.md G1 to G5), notes/assumptions/17.md. -/

namespace Sys2Proof.Machine

/-- POLY: x^7 + x^3 + 1 in 8 bits (R5, R120). -/
def poly : Byte := 0x89#8
/-- CRC_INIT. PRESUMED by the spec (G1, D5), notes/assumptions/17.md. -/
def crcInit : Byte := 0x00#8
/-- FRAME_START: the two leading framing bits (R5, R87). -/
def frameStart : Byte := 0x40#8
/-- STOP_BIT (R5, R89). -/
def stopBit : Byte := 0x01#8
/-- BLOCK_LEN (R5). -/
abbrev blockLen : Nat := 512
/-- RESP_MAX (R5, R94). -/
abbrev respMax : Nat := 5
/-- FILLER: the bus-idle filler byte (R5). -/
def filler : Byte := 0xFF#8
/-- START_TOKEN: the data-start token (R5). -/
def startToken : Byte := 0xFE#8
/-- CHECK_ARG: argument of command 8 (R5). -/
def checkArg : BitVec 32 := 0x000001AA#32
/-- CHECK_PATTERN (R5). -/
def checkPattern : Byte := 0xAA#8
/-- R1_IDLE: mask of the idle-state bit. PRESUMED by the spec (G2), notes/assumptions/17.md. -/
def r1Idle : Byte := 0x01#8
/-- Mask of the non-idle error bits of a status byte (R86). PRESUMED with R1_IDLE. -/
def r1Errors : Byte := 0xFE#8
/-- R7_VOLT_OK: mask of the voltage-accepted bit in response byte 3. PRESUMED by the spec (G3). -/
def r7VoltOk : Byte := 0x01#8
/-- HCS_ARG: argument of command 41. PRESUMED by the spec (G4). -/
def hcsArg : BitVec 32 := 0x40000000#32
/-- OCR_CCS: capacity-status bit in response byte 1. PRESUMED by the spec (G5). -/
def ocrCcs : Byte := 0x40#8
/-- OCR_PWRUP: power-up-complete bit in response byte 1. PRESUMED by the spec (G5). -/
def ocrPwrup : Byte := 0x80#8
/-- Argument of command 0 (document) and of commands 55 and 58 (decided, D19 and G7). -/
def zeroArg : BitVec 32 := 0x00000000#32

end Sys2Proof.Machine
end

