-- ==== Sys2Proof/Machine/Crc.lean ====
section
/-! DEFINITION. The CRC-7 generator as a function of bytes (40_crc7.md rules R120 to R125). It stands before the decoder,
which checks a frame's checksum with it. -/

namespace Sys2Proof.Machine

/-- The polynomial aligned with the bit shifted out: `trunc_8(0x89 << 1)` = 0x12 (R121). -/
def crcTap : Byte := poly <<< 1

/-- `crc_step` (R121): the high bit is sampled before the shift. -/
def crcStep (acc : Byte) : Byte :=
  if acc.getLsbD 7 then (acc <<< 1) ^^^ crcTap else acc <<< 1

/-- `n` applications of `crc_step`. -/
def crcSteps : Nat → Byte → Byte
  | 0, acc => acc
  | n + 1, acc => crcSteps n (crcStep acc)

/-- `crc_byte` (R122): the whole byte is exclusive-or-ed in, then 8 steps. -/
def crcByte (acc b : Byte) : Byte := crcSteps 8 (acc ^^^ b)

/-- The accumulator after the bytes of a message, first byte first (R124). -/
def crcBytes (acc : Byte) (msg : List Byte) : Byte := msg.foldl crcByte acc

/-- The checksum of a message: the accumulator starts from CRC_INIT (R124, R125). -/
def crc7 (msg : List Byte) : Byte := crcBytes crcInit msg

end Sys2Proof.Machine
end

