-- ==== Sys2Proof/Machine/FrameFormat.lean ====
section
/-! DEFINITION. The layout of a command frame as a function of its command index and argument (30_encoding.md R80, R87 to
R89; 41_framer.md R140, R142). It stands before the decoder and the encoder, which share it. -/

namespace Sys2Proof.Machine

/-- Frame byte 0: `0x40 | zext_8(CMD)` (R87). -/
def frameByte0 (c : BitVec 6) : Byte := frameStart ||| c.setWidth 8

/-- Frame bytes 1 to 4: the argument, most significant byte first (R50, R88). -/
def argByte3 (a : BitVec 32) : Byte := a.extractLsb' 24 8
def argByte2 (a : BitVec 32) : Byte := a.extractLsb' 16 8
def argByte1 (a : BitVec 32) : Byte := a.extractLsb' 8 8
def argByte0 (a : BitVec 32) : Byte := a.extractLsb' 0 8

/-- The five bytes the checksum covers (R89). -/
def frameHead (c : BitVec 6) (a : BitVec 32) : List Byte :=
  [frameByte0 c, argByte3 a, argByte2 a, argByte1 a, argByte0 a]

/-- The checksum of the first five bytes, bit 0 not yet forced (R89). -/
def frameSum (c : BitVec 6) (a : BitVec 32) : Byte := crc7 (frameHead c a)

/-- Frame byte 5: the checksum with its lowest bit forced to 1 (R89). -/
def frameByte5 (c : BitVec 6) (a : BitVec 32) : Byte := frameSum c a ||| stopBit

/-- The six bytes of FRAME_BUF (R140). -/
def frameBytes (c : BitVec 6) (a : BitVec 32) : Vector Byte 6 :=
  #v[frameByte0 c, argByte3 a, argByte2 a, argByte1 a, argByte0 a, frameByte5 c a]

/-- The 7 bits of the checksum field (R80, R142): `CRC7(bytes 0..4)[7:1]`. -/
def frameK (c : BitVec 6) (a : BitVec 32) : BitVec 7 := (frameSum c a).extractLsb' 1 7

/-- The 48 bits with given fields, bit 47 first on the wire: `0b01 ++ c ++ a ++ k ++ 0b1` (R80, R142). -/
def frameBits (c : BitVec 6) (a : BitVec 32) (k : BitVec 7) : BitVec 48 :=
  (((1#2 ++ c) ++ a) ++ k) ++ 1#1

/-- `frame(c, a)` of R142. -/
def frameWord (c : BitVec 6) (a : BitVec 32) : BitVec 48 := frameBits c a (frameK c a)

/-- The six bytes of a 48-bit frame in wire order (R51: byte 0 bit 7 first, byte 5 bit 0 last). -/
def bytesOfFrame (w : BitVec 48) : List Byte :=
  [w.extractLsb' 40 8, w.extractLsb' 32 8, w.extractLsb' 24 8, w.extractLsb' 16 8, w.extractLsb' 8 8, w.extractLsb' 0 8]

/-- The fixed frames of the opcode table, letter for letter (R91). -/
def cmd0Word : BitVec 48 := 0x400000000095#48
def cmd8Word : BitVec 48 := 0x48000001AA87#48
def cmd55Word : BitVec 48 := 0x770000000065#48
def acmd41Word : BitVec 48 := 0x694000000077#48
def cmd58Word : BitVec 48 := 0x7A00000000FD#48

/-- The five frames that have a row of their own with every bit fixed. -/
def fixedFrames : List (BitVec 48) := [cmd0Word, cmd8Word, cmd55Word, acmd41Word, cmd58Word]

/-- The command index of a block read (R91). -/
def readCmd : BitVec 6 := 17#6

end Sys2Proof.Machine
end

