-- ==== Sys2Proof/Syntax.lean ====
section
/-! DEFINITION. The instructions: one constructor per row of spec/opcode_table.json (INDEX.md: "instruction" means an
operation of the block or a command frame it emits; the table adds the response shapes, the classes of received byte and
the result codes). -/

namespace Sys2Proof

/-- The six operations, the values of the register OP (10_state.md R20; 00_scope.md R11). -/
inductive Op where
  | crc7 | frame | xr1 | xcmd | rdblk | init
deriving DecidableEq, Repr, Inhabited

/-- The result classes, the values of RESULT (10_state.md R24, 30_encoding.md R101). -/
inductive Result where
  | success | timeout | notSupported | badResponse | checksumError
deriving DecidableEq, Repr, Inhabited

/-- The instructions of the block. Each constructor's docstring names its table row and rule. -/
inductive Instr where
  /-- CRC7(MSG) (40_crc7.md R125). COUNT is the length of the message. -/
  | crc7 (msg : List Byte)
  /-- FRAME(CMD, ARG) (41_framer.md R140). -/
  | frame (cmd : BitVec 6) (arg : BitVec 32)
  /-- XR1(CMD, ARG), internal (42_exchange.md R152). -/
  | xr1 (cmd : BitVec 6) (arg : BitVec 32)
  /-- XCMD(CMD, ARG, RLEN) (42_exchange.md R155). -/
  | xcmd (cmd : BitVec 6) (arg : BitVec 32) (rlen : Nat)
  /-- RDBLK(ARG) (44_block_read.md R190). -/
  | rdblk (arg : BitVec 32)
  /-- INIT(bootstrap divisor, operating divisor, timeout bound) (43_handshake.md R170). -/
  | init (boot oper : Div) (bound : Nat)
  /-- RESERVED_OP: OP 0b11x (30_encoding.md R95). -/
  | reservedOp (x : BitVec 1)
  /-- CMDn: any frame of format FRAME48 that is not one of the named ones (30_encoding.md R80); `k` is the checksum. -/
  | cmdn (cmd : BitVec 6) (arg : BitVec 32) (k : BitVec 7)
  /-- CMD0: `40 00 00 00 00 95` (R91, 43_handshake.md R172). -/
  | cmd0
  /-- CMD8: `48 00 00 01 AA 87` (R91, R173). -/
  | cmd8
  /-- CMD55: `77 00 00 00 00 65` (R91, R174). -/
  | cmd55
  /-- ACMD41: `69 40 00 00 00 77` (R91, R174). -/
  | acmd41
  /-- CMD58: `7A 00 00 00 00 FD` (R91, R177). -/
  | cmd58
  /-- CMD17: `51 a3 a2 a1 a0 kk` (R91, 44_block_read.md R190). -/
  | cmd17 (arg : BitVec 32) (k : BitVec 7)
  /-- R1: the 1-byte response, flags `s` (30_encoding.md R81). -/
  | r1 (s : BitVec 7)
  /-- R3R7: the 5-byte response, flags `s` and four payload bytes in the order received (R82). -/
  | r3r7 (s : BitVec 7) (p1 p2 p3 p4 : Byte)
  /-- ST_VALID: a byte with bit 7 clear, in a status poll (R92, 42_exchange.md R150). -/
  | stValid (s : BitVec 7)
  /-- ST_SKIP: a byte with bit 7 set, in a status poll (R92, R153). -/
  | stSkip (x : BitVec 7)
  /-- TK_FILL: 0xFF in a token poll (R92, 44_block_read.md R192). -/
  | tkFill
  /-- TK_START: 0xFE in a token poll (R92, R193). -/
  | tkStart
  /-- TK_OTHER: any of the 254 other values in a token poll (R92, R193). -/
  | tkOther (t : Byte)
  /-- SUCCESS: the running operation or exchange ends with it (60_exceptions.md R200, R209). -/
  | success
  /-- TIMEOUT (R201). -/
  | timeout
  /-- NOT_SUPPORTED (R202). -/
  | notSupported
  /-- BAD_RESPONSE (R203). -/
  | badResponse
  /-- CHECKSUM_ERROR: declared, never produced (R205). -/
  | checksumError
deriving DecidableEq, Repr

end Sys2Proof
end

