-- ==== Sys2Proof/WellFormed.lean ====
section
/-! DEFINITION. Which instructions are well formed: the operand checks the spec states, and the rules that make a word's
instruction unique. -/

namespace Sys2Proof

open Sys2Proof.Machine

/-- A response length the spec admits (30_encoding.md R94): 1 to RESP_MAX. -/
def legalRlen (n : Nat) : Bool := decide (1 ≤ n) && decide (n ≤ respMax)

/-- The checks, instruction by instruction. A CMDn or CMD17 frame carries the checksum of its first five bytes (R80,
R89); a CMDn is not one of the frames that have a row of their own; a TK_OTHER byte is neither filler nor start token (R92). -/
def Instr.wellFormed : Instr → Bool
  | .crc7 _ => true
  | .frame _ _ => true
  | .xr1 _ _ => true
  | .xcmd _ _ n => legalRlen n
  | .rdblk _ => true
  | .init _ _ _ => true
  | .reservedOp _ => true
  | .cmdn c a k => decide (k = frameK c a) && decide (c ≠ readCmd) && decide (frameBits c a k ∉ fixedFrames)
  | .cmd0 => true
  | .cmd8 => true
  | .cmd55 => true
  | .acmd41 => true
  | .cmd58 => true
  | .cmd17 a k => decide (k = frameK readCmd a)
  | .r1 _ => true
  | .r3r7 _ _ _ _ _ => true
  | .stValid _ => true
  | .stSkip _ => true
  | .tkFill => true
  | .tkStart => true
  | .tkOther t => decide (t ≠ filler) && decide (t ≠ startToken)
  | .success => true
  | .timeout => true
  | .notSupported => true
  | .badResponse => true
  | .checksumError => true

end Sys2Proof
end

