-- ==== Sys2Proof/Decode.lean ====
section
/-! DEFINITION. Decoding, total and rejecting by name, and the encoder, both from the tables of 30_encoding.md. The block
has several decoders, and "Which decoder applies is decided by `SEQ` alone" (R92): a word comes with the port it was taken
from. -/

namespace Sys2Proof

open Sys2Proof.Machine

/-- The operand registers of the host port beside OP (10_state.md R21). -/
structure Operands where
  cmd : BitVec 6
  arg : BitVec 32
  rlen : Nat
  boot : Div
  oper : Div
  bound : Nat
  msg : List Byte
deriving DecidableEq, Repr

/-- Operand words of zeros. The length operand counts from its least legal value, 1. DESIGN CHOICE, notes/assumptions/13.md. -/
def Operands.zero : Operands :=
  { cmd := 0#6, arg := 0#32, rlen := 1, boot := ⟨0⟩, oper := ⟨0⟩, bound := 0, msg := [] }

/-- A word and the format it is read in (the "format" column of the opcode table). -/
inductive PortWord where
  /-- Format OP: the 3-bit select code with the operands the host presents (R90). -/
  | op (code : BitVec 3) (opr : Operands)
  /-- Format FRAME48 (R80). -/
  | frame48 (w : BitVec 48)
  /-- Format R1 (R81). -/
  | respR1 (b : Byte)
  /-- Format R3R7, byte 0 the most significant (R82). -/
  | respR3R7 (w : BitVec 40)
  /-- Format STATUS_POLL: a byte received in a status poll (R92). -/
  | statusPoll (b : Byte)
  /-- Format TOKEN_POLL: a byte received in a token poll (R92). -/
  | tokenPoll (b : Byte)
  /-- Format RESULT: a 3-bit result code (R101). -/
  | resultCode (r : BitVec 3)
deriving DecidableEq, Repr

/-- Why a word is no instruction. -/
inductive DecodeError where
  /-- Bits 47 and 46 of a frame are not 0 and 1 (R80). -/
  | frameStartBits
  /-- Bit 0 of a frame is not 1 (R80). -/
  | frameStopBit
  /-- Bit 7 of a response's status byte is set (R81, R82). -/
  | responseNotValid
  /-- Codes 5 to 7 "name nothing" (R97). -/
  | resultCodeUnnamed
deriving DecidableEq, Repr

/-- The operation map (R90). -/
def decodeOp (code : BitVec 3) (o : Operands) : Instr :=
  if code = 0#3 then .crc7 o.msg
  else if code = 1#3 then .frame o.cmd o.arg
  else if code = 2#3 then .xr1 o.cmd o.arg
  else if code = 3#3 then .xcmd o.cmd o.arg o.rlen
  else if code = 4#3 then .rdblk o.arg
  else if code = 5#3 then .init o.boot o.oper o.bound
  else .reservedOp (code.extractLsb' 0 1)

/-- The frame rows (R80, R91): the fixed frames first, then CMD17, then the generic CMDn. -/
def decodeFrame (w : BitVec 48) : Except DecodeError Instr :=
  if w.extractLsb' 46 2 ≠ 1#2 then .error .frameStartBits
  else if w.extractLsb' 0 1 ≠ 1#1 then .error .frameStopBit
  else if w = cmd0Word then .ok .cmd0
  else if w = cmd8Word then .ok .cmd8
  else if w = cmd55Word then .ok .cmd55
  else if w = acmd41Word then .ok .acmd41
  else if w = cmd58Word then .ok .cmd58
  else if w.extractLsb' 40 6 = readCmd then .ok (.cmd17 (w.extractLsb' 8 32) (w.extractLsb' 1 7))
  else .ok (.cmdn (w.extractLsb' 40 6) (w.extractLsb' 8 32) (w.extractLsb' 1 7))

/-- The R1 row (R81). -/
def decodeR1 (b : Byte) : Except DecodeError Instr :=
  if b.getLsbD 7 then .error .responseNotValid else .ok (.r1 (b.extractLsb' 0 7))

/-- The R3R7 row (R82): byte 0 an R1 byte, bytes 1 to 4 the payload in the order received. -/
def decodeR3R7 (w : BitVec 40) : Except DecodeError Instr :=
  if w.getLsbD 39 then .error .responseNotValid
  else .ok (.r3r7 (w.extractLsb' 32 7) (w.extractLsb' 24 8) (w.extractLsb' 16 8) (w.extractLsb' 8 8) (w.extractLsb' 0 8))

/-- The status poll decoder (R92). -/
def decodeStatus (b : Byte) : Instr :=
  if b.getLsbD 7 then .stSkip (b.extractLsb' 0 7) else .stValid (b.extractLsb' 0 7)

/-- The token poll decoder (R92), in the table's order: TK_FILL, TK_START, then TK_OTHER. -/
def decodeToken (b : Byte) : Instr :=
  if b = filler then .tkFill else if b = startToken then .tkStart else .tkOther b

/-- The result codes (R101). -/
def decodeResult (r : BitVec 3) : Except DecodeError Instr :=
  if r = 0#3 then .ok .success
  else if r = 1#3 then .ok .timeout
  else if r = 2#3 then .ok .notSupported
  else if r = 3#3 then .ok .badResponse
  else if r = 4#3 then .ok .checksumError
  else .error .resultCodeUnnamed

/-- The decoder in force for a port's word. -/
def decode : PortWord → Except DecodeError Instr
  | .op code o => .ok (decodeOp code o)
  | .frame48 w => decodeFrame w
  | .respR1 b => decodeR1 b
  | .respR3R7 w => decodeR3R7 w
  | .statusPoll b => .ok (decodeStatus b)
  | .tokenPoll b => .ok (decodeToken b)
  | .resultCode r => decodeResult r

/-- The select code of an operation (R90). -/
def Op.code : Op → BitVec 3
  | .crc7 => 0b000#3
  | .frame => 0b001#3
  | .xr1 => 0b010#3
  | .xcmd => 0b011#3
  | .rdblk => 0b100#3
  | .init => 0b101#3

/-- The operation a select code names, none for the reserved codes 6 and 7 (R95). -/
def Op.ofCode? (code : BitVec 3) : Option Op :=
  if code = 0#3 then some .crc7
  else if code = 1#3 then some .frame
  else if code = 2#3 then some .xr1
  else if code = 3#3 then some .xcmd
  else if code = 4#3 then some .rdblk
  else if code = 5#3 then some .init
  else none

/-- The number of a result class (R101). -/
def Result.code : Result → BitVec 3
  | .success => 0b000#3
  | .timeout => 0b001#3
  | .notSupported => 0b010#3
  | .badResponse => 0b011#3
  | .checksumError => 0b100#3

/-- The encoder: the port and the word of an instruction. Operands an operation does not take are operand words of zeros. -/
def encode : Instr → PortWord
  | .crc7 msg => .op Op.crc7.code { Operands.zero with msg := msg }
  | .frame c a => .op Op.frame.code { Operands.zero with cmd := c, arg := a }
  | .xr1 c a => .op Op.xr1.code { Operands.zero with cmd := c, arg := a }
  | .xcmd c a n => .op Op.xcmd.code { Operands.zero with cmd := c, arg := a, rlen := n }
  | .rdblk a => .op Op.rdblk.code { Operands.zero with arg := a }
  | .init b o t => .op Op.init.code { Operands.zero with boot := b, oper := o, bound := t }
  | .reservedOp x => .op (0b11#2 ++ x) Operands.zero
  | .cmdn c a k => .frame48 (frameBits c a k)
  | .cmd0 => .frame48 cmd0Word
  | .cmd8 => .frame48 cmd8Word
  | .cmd55 => .frame48 cmd55Word
  | .acmd41 => .frame48 acmd41Word
  | .cmd58 => .frame48 cmd58Word
  | .cmd17 a k => .frame48 (frameBits readCmd a k)
  | .r1 s => .respR1 (0#1 ++ s)
  | .r3r7 s p1 p2 p3 p4 => .respR3R7 ((((((0#1 ++ s) ++ p1) ++ p2) ++ p3) ++ p4))
  | .stValid s => .statusPoll (0#1 ++ s)
  | .stSkip x => .statusPoll (1#1 ++ x)
  | .tkFill => .tokenPoll filler
  | .tkStart => .tokenPoll startToken
  | .tkOther t => .tokenPoll t
  | .success => .resultCode Result.success.code
  | .timeout => .resultCode Result.timeout.code
  | .notSupported => .resultCode Result.notSupported.code
  | .badResponse => .resultCode Result.badResponse.code
  | .checksumError => .resultCode Result.checksumError.code

/-- Which port a word of the opcode table's numbering is read at, from its width alone. Several formats are 8 bits or
fewer, and their rows share values (0 is CRC7, SUCCESS, an R1 byte and a status byte): codes 0 to 7 are read at the host
port, which is the decoder in force at reset (SEQ is IDLE), 0xFF and 0xFE by the token decoder, the other bytes by the
status decoder. DESIGN CHOICE, notes/assumptions/13.md. -/
def tableWord (nbits w : Nat) : Option PortWord :=
  if nbits ≤ 8 then
    if w < 8 then some (.op (BitVec.ofNat 3 w) Operands.zero)
    else if w = 0xFF ∨ w = 0xFE then some (.tokenPoll (BitVec.ofNat 8 w))
    else if w < 256 then some (.statusPoll (BitVec.ofNat 8 w))
    else none
  else if nbits ≤ 40 then some (.respR3R7 (BitVec.ofNat 40 w))
  else if nbits ≤ 48 then some (.frame48 (BitVec.ofNat 48 w))
  else none

/-- The instruction the decoder reads from a word numbered as spec/opcode_table.json numbers it. -/
def decodeTableWord (nbits w : Nat) : Option Instr :=
  match tableWord nbits w with
  | none => none
  | some p => (decode p).toOption

end Sys2Proof
end

