-- ==== Sys2Proof/Machine/State.lean ====
section
/-! DEFINITION. The state of the block (10_state.md R20), of its environment (20_memory.md R63) and of the model, the
reasons a step can stop, and the state after reset (70_reset_and_hazards.md R230). All of it is plain data. -/

namespace Sys2Proof.Machine

/-- The sequencer states (10_state.md R23). No binary encoding exists (D3). X_REL is the moment of the release event in
the transitions of R156 and is never rested in (notes/assumptions/3.md). -/
inductive Seq where
  | idle
  | cRun
  | xAcq | xPulse | xSend | xPoll | xPayload | xRel
  | iCfg | iS1 | iS2 | iS3A | iS3B | iS4 | iS5
  | bCheck | bToken | bData | bRel
deriving DecidableEq, Repr, Inhabited

/-- Bit order argument of `configure` (R9). The block only ever passes MSB-first; the other value is PRESUMED, so that
"never another value" says something, notes/assumptions/5.md. -/
inductive BitOrder where
  | msbFirst | lsbFirst
deriving DecidableEq, Repr

/-- Clock mode argument of `configure` (R9). The block only ever passes mode 0; the others are PRESUMED, as above. -/
inductive ClockMode where
  | mode0 | mode1 | mode2 | mode3
deriving DecidableEq, Repr

/-- The seven kinds of transport event (00_scope.md R9). -/
inductive Event where
  /-- `cfg(d, order, mode)`: T.configure. -/
  | cfg (d : Div) (order : BitOrder) (mode : ClockMode)
  /-- `begin`: T.begin. -/
  | acquire
  /-- `end`: T.end. -/
  | release
  /-- `idle(n)`: T.idle. -/
  | idle (n : Nat)
  /-- `send(b0, ..., bk)`: T.send. -/
  | send (bs : List Byte)
  /-- `rx(b)`: T.recv_byte. -/
  | rx (b : Byte)
  /-- `rxn(b0, ...)`: T.recv. -/
  | rxn (bs : List Byte)
deriving DecidableEq, Repr

/-- One request of the host: the select code and the operands (R21, R90). -/
structure Request where
  code : BitVec 3
  opr : Operands
deriving DecidableEq, Repr

/-- How much one step does (92_eei_decisions.md D30): a whole operation, or one transport event. MODEL's own, DESIGN
CHOICE, notes/assumptions/1.md. -/
inductive Grain where
  | operation | event
deriving DecidableEq, Repr

/-- The machine stops with a fault. The spec names nothing that stops the block: "no operation can trap" (R126), every
error is a Result class (R200). So there is no constructor. -/
inductive Fault where
deriving DecidableEq, Repr

/-- No meaning for the request ("refused", 00_scope.md R12: "a model must not let a claim pass through it"). All safe: the
spec gives the request no meaning, and no claim about a next state passes through a refusal. -/
inductive Refusal where
  /-- Raised by exec for an instruction without a meaning yet. Safe. -/
  | notModelled (mnemonic : String)
  /-- Raised by step: the word at the port in force is no instruction. Safe. -/
  | undecodable (e : DecodeError)
  /-- Raised by CRC7, XCMD, RDBLK, INIT issued while SEQ is not IDLE (R213 (a), U8). Safe. -/
  | busy
  /-- Raised by CRC7, XCMD, RDBLK, INIT (R213 (b)) and by XR1 (R152, precondition) while BUS_HELD is 1. Safe. -/
  | busAlreadyHeld
  /-- Raised by XCMD, RDBLK (R213 (c), U7) and XR1 (R152, precondition) while CTX_VALID is 0. Safe. -/
  | noContext
  /-- Raised by XCMD with RLEN 0 or above 5 (R94, U9). Safe. -/
  | badResponseLength
  /-- Raised by RESERVED_OP (R95, U10). Safe. -/
  | reservedOperation
  /-- Raised by step when the host issues XR1 (R95, U10: "never issued by the host"). Safe. -/
  | internalOperation
  /-- Raised by CHECKSUM_ERROR: no rule produces it (R205, U1). Safe. -/
  | checksumErrorNeverProduced
  /-- Raised by a frame, response, received byte or result presented where SEQ puts another decoder in force (R92,
  R57), notes/assumptions/14.md. Safe. -/
  | outOfSequence
  /-- Raised by CMDn and CMD17 whose checksum field is not that of their first five bytes: no frame the framer builds
  (R80, R89), notes/assumptions/15.md. Safe. -/
  | frameChecksumWrong
  /-- Raised by the reset event in the middle of an operation (R231, U14). Safe. -/
  | resetWhileRunning
deriving DecidableEq, Repr

/-- The whole state. -/
structure State where
  /-- CTX_VALID (R29). -/
  ctxValid : Bool
  /-- CTX_DIV (R28). -/
  ctxDiv : Div
  /-- CTX_TB (R27). -/
  ctxTb : Nat
  /-- SEQ (R23). -/
  seq : Seq
  /-- BUS_HELD (R26). -/
  busHeld : Bool
  /-- OP (R20). -/
  op : Op
  /-- CMD (R21). -/
  cmd : BitVec 6
  /-- ARG (R21). -/
  arg : BitVec 32
  /-- RLEN (R20). -/
  rlen : Nat
  /-- FRAME_BUF[0..5] (R30). -/
  frameBuf : Vector Byte 6
  /-- ACC (R33). -/
  acc : Byte
  /-- CRC_OUT (R20). -/
  crcOut : Byte
  /-- POLL_CNT (R214). -/
  pollCnt : Nat
  /-- ATT_CNT (R215). -/
  attCnt : Nat
  /-- STATUS (R25). -/
  status : Byte
  /-- TOKEN (R20). -/
  token : Byte
  /-- RESP[0..4] (R31). -/
  resp : Vector Byte 5
  /-- DATA[0..511] (R32). -/
  data : Vector Byte 512
  /-- RESULT (R24). -/
  result : Result
  /-- RX (R10): the received bytes already determined, continued by Config.rxTail (notes/assumptions/4.md). -/
  rx : List Byte
  /-- How many bytes of RX have been taken (notes/assumptions/4.md). -/
  rxPos : Nat
  /-- TX (R9), newest event first (notes/assumptions/5.md). -/
  txRev : List Event
  /-- The host's pending requests, oldest first (R99, R243; notes/assumptions/6.md). -/
  host : List Request
  /-- The bytes of a running CRC7 not yet streamed in (R21; notes/assumptions/6.md). -/
  msgIn : List Byte
  /-- The model arguments (R5, R6; notes/assumptions/12.md). -/
  cfg : Params
  /-- Where the running exchange returns to (R23; notes/assumptions/2.md). -/
  ret : Seq
  /-- D30 (notes/assumptions/1.md). -/
  grain : Grain
  /-- How many draws have been made (notes/assumptions/8.md). -/
  draw : Nat
deriving DecidableEq, Repr

/-- TX, the output history, oldest event first (R9). -/
def State.tx (s : State) : List Event := s.txRev.reverse

/-- The machine right after reset. SEQ, BUS_HELD and CTX_VALID as R230 states them; every register R230 leaves
"unspecified" at the value notes/assumptions/7.md names. -/
def State.reset : State :=
  { ctxValid := false
    ctxDiv := ⟨0⟩
    ctxTb := 0
    seq := .idle
    busHeld := false
    op := .crc7
    cmd := 0#6
    arg := 0#32
    rlen := 1
    frameBuf := Vector.replicate 6 0#8
    acc := 0#8
    crcOut := 0#8
    pollCnt := 0
    attCnt := 0
    status := 0#8
    token := 0#8
    resp := Vector.replicate 5 0#8
    data := Vector.replicate 512 0#8
    result := .success
    rx := []
    rxPos := 0
    txRev := []
    host := []
    msgIn := []
    cfg := Config.defaultParams
    ret := .idle
    grain := .operation
    draw := 0 }

end Sys2Proof.Machine
end

