-- ==== Sys2Proof/Machine/Flags.lean ====
section
/-! DEFINITION. Every test the block makes on a received byte, a response or a counter: the block's flag and condition
computations (10_state.md R24, R25; 30_encoding.md R84 to R86, R92; 43_handshake.md R172 to R178). -/

namespace Sys2Proof.Machine

/-- A received byte is a valid status byte exactly when bit 7 is clear (R150). -/
def validStatus (b : Byte) : Bool := !b.getLsbD 7

/-- Filler of the token poll: the whole byte is 0xFF (R192). -/
def isFiller (b : Byte) : Bool := decide (b = filler)

/-- The named flags of an R1 byte. Only bit 7 and the idle-state bit take part in any rule; the other positions are the
spec's general knowledge, for the reader of a trace (R84, G2). -/
def flagParameterError (b : Byte) : Bool := b.getLsbD 6
def flagAddressError (b : Byte) : Bool := b.getLsbD 5
def flagEraseSequenceError (b : Byte) : Bool := b.getLsbD 4
def flagChecksumError (b : Byte) : Bool := b.getLsbD 3
def flagIllegalCommand (b : Byte) : Bool := b.getLsbD 2
def flagEraseReset (b : Byte) : Bool := b.getLsbD 1
def flagIdleState (b : Byte) : Bool := b.getLsbD 0

/-- A mask test: some bit of the mask is set. -/
def anySet (b mask : Byte) : Bool := decide (b &&& mask ≠ 0#8)

/-- How a status poll ended: SUCCESS when its last byte is a valid status byte, TIMEOUT otherwise; TIMEOUT when no byte
was received at all, SEQ then being X_SEND still (R153, R154, R156). -/
def pollOutcome (s : State) : Result :=
  if s.seq = .xPoll ∧ validStatus s.status = true then .success else .timeout

/-- A status poll attempt is due (R153, R156): the budget is not spent and no valid byte has come. -/
def statusPolling (s : State) : Bool :=
  match s.seq with
  | .xSend => decide (s.pollCnt ≠ 0)
  | .xPoll => !validStatus s.status && decide (s.pollCnt ≠ 0)
  | _ => false

/-- A token poll attempt is due (R190, R192): the first is made from B_CHECK, each later one from B_TOKEN. Where SEQ stands
before the first token byte is the model's choice. DESIGN CHOICE, notes/assumptions/20.md. -/
def tokenPolling (s : State) : Bool :=
  match s.seq with
  | .bCheck => decide (s.status = 0#8) && decide (s.pollCnt ≠ 0)
  | .bToken => isFiller s.token && decide (s.pollCnt ≠ 0)
  | _ => false

/-- A valid status byte has ended the poll of an XCMD, and its response is to be taken (R155, R156). -/
def responseDue (s : State) : Bool := decide (s.seq = .xPoll) && validStatus s.status

/-- The class the exchange ended with, unless it was SUCCESS (`if r != SUCCESS: fail(r)`, R170). -/
def exchangeFailed (s : State) : Option Result :=
  if s.result = .success then none else some s.result

/-- INIT step 1's test (R172): the exchange succeeded and the status byte is exactly 0x01. -/
def resetTest (s : State) : Option Result :=
  match exchangeFailed s with
  | some r => some r
  | none => if s.status = r1Idle then none else some .timeout

/-- INIT step 2's test (R173, R85). -/
def interfaceTest (s : State) : Option Result :=
  match exchangeFailed s with
  | some r => some r
  | none =>
    if anySet s.resp[0] r1Idle && anySet s.resp[3] r7VoltOk && decide (s.resp[4] = checkPattern) then none
    else some .notSupported

/-- INIT step 3's stop test, made on the command 41 exchange only (R175). -/
def cardReady (s : State) : Bool := decide (s.result = .success) && decide (s.status = 0#8)

/-- INIT step 4's tests in their order (R178, R86). -/
def capacityTest (s : State) : Option Result :=
  match exchangeFailed s with
  | some r => some r
  | none =>
    if anySet s.resp[0] r1Errors then some .badResponse
    else if !anySet s.resp[1] ocrCcs then some .notSupported
    else if !anySet s.resp[1] ocrPwrup then some .badResponse
    else none

/-- SEQ is a state of INIT to which an exchange returns. -/
def handshakeReturn : Seq → Bool
  | .iS1 | .iS2 | .iS3A | .iS3B | .iS4 => true
  | .idle | .cRun | .xAcq | .xPulse | .xSend | .xPoll | .xPayload | .xRel | .iCfg | .iS5
  | .bCheck | .bToken | .bData | .bRel => false

/-- The result class with which the running exchange or operation ends at this point, if it ends here (R153, R156, R170,
R190 to R193; 60_exceptions.md R201 to R203). A block read whose status poll failed ends from X_SEND or X_POLL, without resting
in B_CHECK; an INIT step's test is made where its exchange has returned. DESIGN CHOICE, notes/assumptions/20.md. -/
def dueClass (s : State) : Option Result :=
  match s.seq with
  | .xSend => if s.pollCnt = 0 then some .timeout else none
  | .xPoll => if validStatus s.status then none else if s.pollCnt = 0 then some .timeout else none
  | .xPayload => some .success
  | .bCheck =>
    if s.status ≠ 0#8 then some .badResponse else if s.pollCnt = 0 then some .timeout else none
  | .bToken =>
    if isFiller s.token then (if s.pollCnt = 0 then some .timeout else none)
    else if s.token = startToken then none else some .badResponse
  | .bData => if s.cfg.drainCrc then none else some .success
  | .bRel => some .success
  | .iS1 => resetTest s
  | .iS2 =>
    match interfaceTest s with
    | some r => some r
    | none => if s.attCnt = 0 then some .timeout else none
  | .iS3B => if cardReady s then none else if s.attCnt = 0 then some .timeout else none
  | .iS4 => capacityTest s
  | .iS5 => some .success
  | .idle | .cRun | .xAcq | .xPulse | .xRel | .iCfg | .iS3A => none

end Sys2Proof.Machine
end

