-- ==== Sys2Proof/Machine/Ops.lean ====
section
/-! DEFINITION. The named operations every meaning is written over: the transport primitives (00_scope.md R9), the input
stream (R10), the draws, and the ending of an operation (60_exceptions.md R209), which is the block's whole exception
mechanism. -/

namespace Sys2Proof.Machine

/-- Append one event to TX (R9). -/
def emit (e : Event) (s : State) : State := { s with txRev := e :: s.txRev }

/-- The i-th byte of RX from here (R10). -/
def State.rxAt (s : State) (i : Nat) : Byte := s.rx.getD i (Config.rxTail (s.rxPos + i))

/-- The next `n` bytes of RX, in order (R10). -/
def State.rxTake (s : State) (n : Nat) : List Byte := (List.range n).map s.rxAt

/-- RX with `n` bytes taken (R10, R55: they "can never be read again"). -/
def State.rxDrop (s : State) (n : Nat) : State := { s with rx := s.rx.drop n, rxPos := s.rxPos + n }

/-- `T.configure(d)`: always MSB-first, mode 0 (R9, R51). -/
def configure (d : Div) (s : State) : State := emit (.cfg d .msbFirst .mode0) s

/-- `T.begin(); BUS_HELD <- 1` (R152, R26). -/
def acquireBus (s : State) : State := emit .acquire { s with busHeld := true, seq := .xAcq }

/-- `T.end(); BUS_HELD <- 0` (R26). -/
def releaseBus (s : State) : State := emit .release { s with busHeld := false }

/-- `if BUS_HELD == 1: T.end(); BUS_HELD <- 0` (R209 (1)). -/
def releaseIfHeld (s : State) : State := if s.busHeld then releaseBus s else s

/-- `T.idle(1)`, the settling pulse (R152, R237). -/
def pulse (s : State) : State := emit (.idle 1) { s with seq := .xPulse }

/-- The settled byte of a status poll attempt, already taken from RX (R153): STATUS, POLL_CNT and the `rx` event. -/
def statusByte (b : Byte) (s : State) : State :=
  emit (.rx b) { s with status := b, pollCnt := s.pollCnt - 1, seq := .xPoll }

/-- The byte of a token poll attempt, already taken from RX (R190): TOKEN, POLL_CNT and the `rx` event. -/
def tokenByte (b : Byte) (s : State) : State :=
  emit (.rx b) { s with token := b, pollCnt := s.pollCnt - 1, seq := .bToken }

/-- STATUS becomes a draw (R154). -/
def drawStatus (s : State) : State := { s with status := Config.freeByte s.draw, draw := s.draw + 1 }

/-- RESP becomes a draw, five bytes of it (R155, U5). -/
def drawResp (s : State) : State :=
  { s with resp := Vector.ofFn (fun i : Fin 5 => Config.freeByte (s.draw + i.val)), draw := s.draw + 5 }

/-- The start of a status poll (R153): `POLL_CNT <- CTX_TB`. At CTX_TB = 0 no byte will be observed, and STATUS is a draw
(R154). -/
def startPoll (s : State) : State :=
  if s.ctxTb = 0 then drawStatus { s with pollCnt := 0 } else { s with pollCnt := s.ctxTb }

/-- The status poll's attempts (R153), at most `n` of them; it stops at the first valid byte. -/
def pollLoop : Nat → State → State
  | 0, s => s
  | n + 1, s =>
    if validStatus (s.rxAt 0) then statusByte (s.rxAt 0) (s.rxDrop 1)
    else pollLoop n (statusByte (s.rxAt 0) (s.rxDrop 1))

/-- The token poll's attempts (R190, R192), at most `n`; it stops at the first byte that is not filler. The flag is the
pseudocode's `found`. -/
def tokenLoop : Nat → State → Bool × State
  | 0, s => (false, s)
  | n + 1, s =>
    if isFiller (s.rxAt 0) then tokenLoop n (tokenByte (s.rxAt 0) (s.rxDrop 1))
    else (true, tokenByte (s.rxAt 0) (s.rxDrop 1))

/-- `RESULT <- r`, the class the status poll ended with, written by whoever called XR1 as an operation of its own (R152: "its
caller does"; R22, R24, R90: RESULT is a result of XR1; notes/assumptions/9.md). -/
def deliverOutcome (s : State) : State := { s with result := pollOutcome s }

/-- The ending of a host-visible operation with class `r` (R209; `fail(R)` of R170 and R190): release the bus if it is
held, write RESULT, go to IDLE. Nothing is saved, and control goes back to the host. -/
def finish (r : Result) (s : State) : State :=
  { releaseIfHeld s with result := r, seq := .idle, ret := .idle }

/-- The ending of an XCMD (R155): release, RESULT, and back to whoever called it, the host (IDLE) or INIT. -/
def endExchange (r : Result) (s : State) : State :=
  { releaseIfHeld s with result := r, seq := s.ret }

/-- `ATT_CNT <- NEG_ATTEMPTS` (R170). -/
def loadAttempts (s : State) : State := { s with attCnt := s.cfg.negAttempts }

/-- `POLL_CNT <- TOKEN_POLLS` (R190). -/
def loadTokenBudget (s : State) : State := { s with pollCnt := s.cfg.tokenPolls }

/-- Return of an exchange into INIT at event grain: when step 2's tests pass, `ATT_CNT <- NEG_ATTEMPTS` follows before the
next event (R170). -/
def enterNegotiation (s : State) : State :=
  if s.seq = .iS2 ∧ interfaceTest s = none then loadAttempts s else s

/-- At event grain: XR1 returned success to RDBLK; when the status check passes, `POLL_CNT <- TOKEN_POLLS` follows before
the next event (R190, R191). That SEQ stands at B_CHECK from here to the first token byte is a DESIGN CHOICE,
notes/assumptions/20.md. -/
def enterBlockCheck (s : State) : State :=
  if s.status = 0#8 then loadTokenBudget { s with seq := .bCheck } else { s with seq := .bCheck }

/-- An XCMD's status poll is open: neither RDBLK's poll nor anything else (R155). -/
def exchangeOpen (s : State) : Bool :=
  (decide (s.seq = .xSend) || decide (s.seq = .xPoll)) && decide (s.ret ≠ .bCheck)

/-- At event grain: the running exchange or operation ends with class `r`. An XCMD whose poll failed leaves RESP a draw
(R155); an exchange INIT called returns into INIT; anything else ends the host's operation (R209). -/
def conclude (r : Result) (s : State) : State :=
  let s := if r = .timeout ∧ exchangeOpen s = true then drawResp s else s
  if s.busHeld && handshakeReturn s.ret then enterNegotiation (endExchange r s) else finish r s

/-- The reset event (70_reset_and_hazards.md R230, R231): no transport event; the environment and the model's own
configuration stay. In the middle of an operation it is outside the spec (U14). -/
def resetEvent (s : State) : Host.Outcome State Fault Refusal :=
  if s.seq = .idle then
    .next { State.reset with
      rx := s.rx, rxPos := s.rxPos, txRev := s.txRev, host := s.host, cfg := s.cfg, grain := s.grain, draw := s.draw }
  else .refused .resetWhileRunning

end Sys2Proof.Machine
end

