-- ==== Sys2Proof/Machine/Operands.lean ====
section
/-! DEFINITION. Operand registers and buffers: sampling the operands of an operation (10_state.md R21), the framer's buffer,
and every form in which received bytes are stored (20_memory.md R52). -/

namespace Sys2Proof.Machine

/-- CMD and ARG hold the operands (R21). -/
def loadCommand (c : BitVec 6) (a : BitVec 32) (s : State) : State := { s with cmd := c, arg := a }

/-- CMD, ARG and RLEN hold the operands of an XCMD, and RET where it returns to (R20, R23). -/
def loadExchange (ret : Seq) (c : BitVec 6) (a : BitVec 32) (n : Nat) (s : State) : State :=
  { s with cmd := c, arg := a, rlen := n, ret := ret }

/-- FRAME (R140): FRAME_BUF, and ACC and CRC_OUT through the CRC7 it uses. -/
def buildFrame (c : BitVec 6) (a : BitVec 32) (s : State) : State :=
  { s with frameBuf := frameBytes c a, acc := frameSum c a, crcOut := frameSum c a }

/-- `FRAME(CMD, ARG); T.send(FRAME_BUF[0..5])` and the start of the status poll (R152, R156). -/
def sendFrame (c : BitVec 6) (a : BitVec 32) (s : State) : State :=
  startPoll (emit (.send (frameBytes c a).toList) { buildFrame c a s with seq := .xSend })

/-- The bytes stored at RESP[0], RESP[1], ...; the bytes of RESP past them keep their contents (R52, R22). -/
def storeBytes (bs : List Byte) (old : Vector Byte 5) : Vector Byte 5 :=
  Vector.ofFn (fun i : Fin 5 => bs.getD i.val old[i])

/-- `RESP[0] <- STATUS` (R155). -/
def storeStatus (s : State) : State := { s with resp := storeBytes [s.status] s.resp }

/-- The response of more than one byte: RESP[0] and the payload bytes, already taken from RX, with their `rxn` event
(R155, R52). -/
def storeResponse (st : Byte) (payload : List Byte) (s : State) : State :=
  emit (.rxn payload) { s with resp := storeBytes (st :: payload) s.resp, seq := .xPayload }

/-- `RESP[0] <- STATUS; RESP[1..RLEN−1] <- T.recv(RLEN − 1)` for RLEN > 1 (R155). -/
def takePayload (n : Nat) (s : State) : State :=
  storeResponse s.status (s.rxTake (n - 1)) (s.rxDrop (n - 1))

/-- `DATA[0..511] <- T.recv(512)` (R194). -/
def takeData (s : State) : State :=
  emit (.rxn (s.rxTake blockLen))
    { s.rxDrop blockLen with data := Vector.ofFn (fun i : Fin 512 => s.rxAt i.val), seq := .bData }

/-- `T.recv(2)`, the bytes discarded (R195). -/
def drainChecksum (s : State) : State :=
  emit (.rxn (s.rxTake 2)) { s.rxDrop 2 with seq := .bRel }

/-- The status byte with flags `f` (R81). -/
def statusOf (f : BitVec 7) : Byte := 0#1 ++ f

/-- The not-yet byte with low bits `x` (R92). -/
def skipOf (x : BitVec 7) : Byte := 1#1 ++ x

end Sys2Proof.Machine
end

