-- ==== Sys2Proof/Machine/Detector.lean ====
section
/-! DEFINITION. The received bytes and responses (30_encoding.md R81, R82, R92) and the result classes (R101), executed at
the sequencer points where their decoder is in force. The bytes of such an instruction have already been taken from RX by
the fetch. -/

namespace Sys2Proof.Machine

/-- A status poll attempt returned `b` (R153). -/
def statusAttempt (b : Byte) (s : State) : Host.Outcome State Fault Refusal :=
  if statusPolling s then .next (statusByte b s) else .refused .outOfSequence

/-- ST_VALID (R150, R92): the poll ends with SUCCESS, STATUS holds the byte. XR1 then returns: to RDBLK at B_CHECK
(DESIGN CHOICE, notes/assumptions/20.md). -/
def execStValid (f : BitVec 7) (s : State) : Host.Outcome State Fault Refusal :=
  if statusPolling s then
    .next (if s.ret = .bCheck then enterBlockCheck (statusByte (statusOf f) s) else statusByte (statusOf f) s)
  else .refused .outOfSequence

/-- ST_SKIP (R92): one unit of budget is spent; the poll goes on, or ends with TIMEOUT when the budget is spent. -/
def execStSkip (x : BitVec 7) (s : State) : Host.Outcome State Fault Refusal := statusAttempt (skipOf x) s

/-- A token poll attempt returned `b` (R190, R192). -/
def tokenAttempt (b : Byte) (s : State) : Host.Outcome State Fault Refusal :=
  if tokenPolling s then .next (tokenByte b s) else .refused .outOfSequence

/-- TK_FILL (R192): one unit of budget is spent. -/
def execTkFill (s : State) : Host.Outcome State Fault Refusal := tokenAttempt filler s

/-- TK_START (R193): the poll ends; the data follow. -/
def execTkStart (s : State) : Host.Outcome State Fault Refusal := tokenAttempt startToken s

/-- TK_OTHER (R193): the poll ends; RDBLK returns BAD_RESPONSE. -/
def execTkOther (t : Byte) (s : State) : Host.Outcome State Fault Refusal := tokenAttempt t s

/-- R1 (R81, R155, R156): the 1-byte response. RESP[0] holds it, the bus is released, the exchange ends with SUCCESS. The
step presents STATUS. A row with another byte, which only exec can present, stores its own and leaves STATUS alone (DESIGN
CHOICE, notes/assumptions/22.md). -/
def execR1 (f : BitVec 7) (s : State) : Host.Outcome State Fault Refusal :=
  if responseDue s ∧ s.rlen = 1 then
    .next (conclude .success { s with resp := storeBytes [statusOf f] s.resp })
  else .refused .outOfSequence

/-- R3R7 (R82, R155, R156): the 5-byte response. RESP[0..4] hold it; the release comes next. Its first
byte stands to STATUS as R1's does (DESIGN CHOICE, notes/assumptions/22.md). -/
def execR3r7 (f : BitVec 7) (p1 p2 p3 p4 : Byte) (s : State) : Host.Outcome State Fault Refusal :=
  if responseDue s ∧ s.rlen = 5 then .next (storeResponse (statusOf f) [p1, p2, p3, p4] s)
  else .refused .outOfSequence

/-- The running exchange or operation ends with class `r`, where `r` is the class due (R209). -/
def endWith (r : Result) (s : State) : Host.Outcome State Fault Refusal :=
  if dueClass s = some r then .next (conclude r s) else .refused .outOfSequence

/-- SUCCESS (R200, R209). -/
def execSuccess (s : State) : Host.Outcome State Fault Refusal := endWith .success s

/-- TIMEOUT (R201, R209). -/
def execTimeout (s : State) : Host.Outcome State Fault Refusal := endWith .timeout s

/-- NOT_SUPPORTED (R202, R209). -/
def execNotSupported (s : State) : Host.Outcome State Fault Refusal := endWith .notSupported s

/-- BAD_RESPONSE (R203, R209). -/
def execBadResponse (s : State) : Host.Outcome State Fault Refusal := endWith .badResponse s

/-- CHECKSUM_ERROR (R205): "no rule writes it". -/
def execChecksumError (_s : State) : Host.Outcome State Fault Refusal := .refused .checksumErrorNeverProduced

end Sys2Proof.Machine
end

