-- ==== Sys2Proof/Machine/Frames.lean ====
section
/-! DEFINITION. The command frames (30_encoding.md R80, R91). A frame is the instruction in force where SEQ is X_PULSE: it
is built, sent whole in one call, and the status poll begins (42_exchange.md R152, R156; 41_framer.md R141). -/

namespace Sys2Proof.Machine

/-- A frame executed: only after the settling pulse of its transaction (R57, R156). The step presents the frame of CMD and ARG
(R141, R152). A row with another index or argument, which only exec can present, sends its own frame and leaves CMD and ARG
alone. DESIGN CHOICE, notes/assumptions/22.md. -/
def execFrame48 (c : BitVec 6) (a : BitVec 32) (s : State) : Host.Outcome State Fault Refusal :=
  if s.seq = .xPulse then .next (sendFrame c a s) else .refused .outOfSequence

/-- CMDn (R80). A checksum field that is not that of the first five bytes makes it no frame the framer builds (R89). -/
def execCmdn (c : BitVec 6) (a : BitVec 32) (k : BitVec 7) (s : State) : Host.Outcome State Fault Refusal :=
  if k = frameK c a then execFrame48 c a s else .refused .frameChecksumWrong

/-- CMD0 (R91, R172). -/
def execCmd0 (s : State) : Host.Outcome State Fault Refusal := execFrame48 0#6 zeroArg s

/-- CMD8 (R91, R173). -/
def execCmd8 (s : State) : Host.Outcome State Fault Refusal := execFrame48 8#6 checkArg s

/-- CMD55 (R91, R174). -/
def execCmd55 (s : State) : Host.Outcome State Fault Refusal := execFrame48 55#6 zeroArg s

/-- ACMD41 (R91, R174). -/
def execAcmd41 (s : State) : Host.Outcome State Fault Refusal := execFrame48 41#6 hcsArg s

/-- CMD58 (R91, R177). -/
def execCmd58 (s : State) : Host.Outcome State Fault Refusal := execFrame48 58#6 zeroArg s

/-- CMD17 (R91, R190), its checksum field checked as CMDn's. -/
def execCmd17 (a : BitVec 32) (k : BitVec 7) (s : State) : Host.Outcome State Fault Refusal :=
  if k = frameK readCmd a then execFrame48 readCmd a s else .refused .frameChecksumWrong

end Sys2Proof.Machine
end

