-- ==== Sys2Proof/Machine/Checksum.lean ====
section
/-! DEFINITION. CRC7 (40_crc7.md R124, R125) and FRAME (41_framer.md R140, R141). -/

namespace Sys2Proof.Machine

/-- CRC7 as one step: ACC and CRC_OUT, nothing else (R125). -/
def crcOperation (msg : List Byte) (s : State) : State := { s with acc := crc7 msg, crcOut := crc7 msg }

/-- The start of CRC7 at event grain (R124): `ACC <- CRC_INIT`, the message streamed in while SEQ is C_RUN.
How many steps a CRC7 takes is the model's choice: one here, one for each byte, one to write CRC_OUT. DESIGN CHOICE,
notes/assumptions/21.md. -/
def crcBegin (msg : List Byte) (s : State) : State := { s with acc := crcInit, msgIn := msg, seq := .cRun }

/-- One byte of a running CRC7, or its end (R124, R125), one step each. DESIGN CHOICE, notes/assumptions/21.md. -/
def crcAbsorb (s : State) : State :=
  match s.msgIn with
  | b :: bs => { s with acc := crcByte s.acc b, msgIn := bs }
  | [] => { s with crcOut := s.acc, seq := .idle }

/-- What gates every host operation (R213 (a), (b)). -/
def admitted (s : State) : Option Refusal :=
  if s.seq ≠ .idle then some .busy else if s.busHeld then some .busAlreadyHeld else none

/-- CRC7 is admitted whatever CTX_VALID is (R125, R213). -/
def execCrc7 (msg : List Byte) (s : State) : Host.Outcome State Fault Refusal :=
  match admitted s with
  | some r => .refused r
  | none => .next (crcOperation msg s)

/-- FRAME (R140): pure but for the operand registers, FRAME_BUF, ACC and CRC_OUT; it cannot fail. -/
def execFrame (c : BitVec 6) (a : BitVec 32) (s : State) : Host.Outcome State Fault Refusal :=
  .next (buildFrame c a (loadCommand c a s))

end Sys2Proof.Machine
end

