-- ==== Sys2Proof/Machine/Exchange.lean ====
section
/-! DEFINITION. The exchange: XR1 (42_exchange.md R152) and XCMD (R155) as whole operations. -/

namespace Sys2Proof.Machine

/-- XR1's pseudocode (R152), as XCMD and RDBLK call it: acquire, one idle clock, frame, status poll. The bus stays held.
RESULT is left to the caller. -/
def xr1 (c : BitVec 6) (a : BitVec 32) (s : State) : State :=
  let s := sendFrame c a (pulse (acquireBus s))
  pollLoop s.pollCnt s

/-- XCMD's pseudocode after its operands are loaded (R155): the exchange, the response, the release. -/
def xcmdBody (c : BitVec 6) (a : BitVec 32) (n : Nat) (s : State) : State :=
  let s := xr1 c a s
  if pollOutcome s ≠ .success then endExchange .timeout (drawResp s)
  else if n = 1 then endExchange .success (storeStatus s)
  else endExchange .success (takePayload n s)

/-- An XCMD called with return state `ret`, IDLE when the host issued it (R155, R170). -/
def xcmdCall (ret : Seq) (c : BitVec 6) (a : BitVec 32) (n : Nat) (s : State) : State :=
  xcmdBody c a n (loadExchange ret c a n s)

/-- XCMD's admission (R155): idle, bus free, context, 1 to 5 bytes. -/
def xcmdAdmitted (n : Nat) (s : State) : Option Refusal :=
  match admitted s with
  | some r => some r
  | none => if !s.ctxValid then some .noContext else if !legalRlen n then some .badResponseLength else none

/-- XR1 as an operation of its own (R90), internal (R152): its precondition is a free bus and a context. At its end RESULT
holds the class it returned, once (R22, R24; notes/assumptions/9.md). -/
def execXr1 (c : BitVec 6) (a : BitVec 32) (s : State) : Host.Outcome State Fault Refusal :=
  if s.busHeld then .refused .busAlreadyHeld
  else if !s.ctxValid then .refused .noContext
  else .next (deliverOutcome (xr1 c a (loadCommand c a s)))

/-- XCMD (R155). -/
def execXcmd (c : BitVec 6) (a : BitVec 32) (n : Nat) (s : State) : Host.Outcome State Fault Refusal :=
  match xcmdAdmitted n s with
  | some r => .refused r
  | none => .next (xcmdCall .idle c a n s)

end Sys2Proof.Machine
end

