-- ==== Sys2Proof/Machine/BlockRead.lean ====
section
/-! DEFINITION. RDBLK (44_block_read.md R190 to R196) as a whole operation. -/

namespace Sys2Proof.Machine

/-- The sequencer's operands of a block read: command 17 with the address (R190), returning to B_CHECK. -/
def loadRead (a : BitVec 32) (s : State) : State := { s with cmd := readCmd, arg := a, ret := .bCheck }

/-- The data, and the two checksum bytes when DRAIN_CRC is set (R194, R195). -/
def readData (s : State) : State :=
  if s.cfg.drainCrc then drainChecksum (takeData s) else takeData s

/-- The token poll and what follows it (R192, R193, R194). -/
def readAfterStatus (s : State) : State :=
  match tokenLoop s.cfg.tokenPolls (loadTokenBudget s) with
  | (found, s) =>
    if !found then finish .timeout s
    else if s.token ≠ startToken then finish .badResponse s
    else finish .success (readData s)

/-- RDBLK's pseudocode (R190). -/
def rdblk (a : BitVec 32) (s : State) : State :=
  let s := xr1 readCmd a (loadRead a s)
  if pollOutcome s ≠ .success then finish (pollOutcome s) s
  else if s.status ≠ 0#8 then finish .badResponse s
  else readAfterStatus s

/-- RDBLK's admission (R190, R213): idle, bus free, context. -/
def rdblkAdmitted (s : State) : Option Refusal :=
  match admitted s with
  | some r => some r
  | none => if !s.ctxValid then some .noContext else none

/-- RDBLK (R190). -/
def execRdblk (a : BitVec 32) (s : State) : Host.Outcome State Fault Refusal :=
  match rdblkAdmitted s with
  | some r => .refused r
  | none => .next (rdblk a s)

end Sys2Proof.Machine
end

