-- ==== Sys2Proof/Machine/Handshake.lean ====
section
/-! DEFINITION. INIT (43_handshake.md R170 to R181) as a whole operation. -/

namespace Sys2Proof.Machine

/-- The session context, then `T.configure(bootstrap_clock_divisor)` (R171). RET says what comes next: IDLE while the
preamble is still to be emitted, I_S1 when it is not. -/
def initBegin (boot oper : Div) (bound : Nat) (s : State) : State :=
  configure boot
    { s with
      ctxTb := bound, ctxDiv := oper, ctxValid := true, seq := .iCfg,
      ret := if s.cfg.preambleClocks = 0 then .iS1 else .idle }

/-- `if PREAMBLE_CLOCKS != 0: T.idle(PREAMBLE_CLOCKS)` (R170, D26), the event. -/
def preamble (s : State) : State := emit (.idle s.cfg.preambleClocks) { s with ret := .iS1 }

/-- The exchanges of the steps (R172 to R177; arguments and response lengths of R91). -/
def callReset (s : State) : State := xcmdCall .iS1 0#6 zeroArg 1 s
def callInterface (s : State) : State := xcmdCall .iS2 8#6 checkArg 5 s
def callPrefix (s : State) : State := xcmdCall .iS3A 55#6 zeroArg 1 s
def callNegotiate (s : State) : State := xcmdCall .iS3B 41#6 hcsArg 1 s
def callCapacity (s : State) : State := xcmdCall .iS4 58#6 zeroArg 5 s

/-- One attempt of step 3 (R174): a unit is spent, then command 55 and command 41. -/
def attempt (s : State) : State := callNegotiate (callPrefix { s with attCnt := s.attCnt - 1 })

/-- Step 3 (R174 to R176): at most `n` attempts; the flag is the pseudocode's `ready`. -/
def negotiate : Nat → State → Bool × State
  | 0, s => (false, s)
  | n + 1, s => if cardReady (attempt s) then (true, attempt s) else negotiate n (attempt s)

/-- Steps 4 and 5 (R177, R178, R181). -/
def initFinish (s : State) : State :=
  let s := callCapacity s
  match capacityTest s with
  | some r => finish r s
  | none => finish .success (configure s.ctxDiv s)

/-- Step 3 and on. -/
def initNegotiate (s : State) : State :=
  match negotiate s.cfg.negAttempts (loadAttempts s) with
  | (ready, s) => if ready then initFinish s else finish .timeout s

/-- Step 2 and on (R173). -/
def initInterface (s : State) : State :=
  let s := callInterface s
  match interfaceTest s with
  | some r => finish r s
  | none => initNegotiate s

/-- Step 1 and on (R172). -/
def initReset (s : State) : State :=
  let s := callReset s
  match resetTest s with
  | some r => finish r s
  | none => initInterface s

/-- INIT's pseudocode (R170). -/
def initOperation (boot oper : Div) (bound : Nat) (s : State) : State :=
  let s := initBegin boot oper bound s
  initReset (if s.cfg.preambleClocks = 0 then s else preamble s)

/-- INIT is admitted whatever CTX_VALID is (R170, R213). -/
def execInit (boot oper : Div) (bound : Nat) (s : State) : Host.Outcome State Fault Refusal :=
  match admitted s with
  | some r => .refused r
  | none => .next (initOperation boot oper bound s)

/-- RESERVED_OP (R95): "`OP` values 0b110 and 0b111 name no operation and are refused". -/
def execReservedOp (_x : BitVec 1) (_s : State) : Host.Outcome State Fault Refusal := .refused .reservedOperation

end Sys2Proof.Machine
end

