-- ==== Sys2Proof/Machine/Dispatch.lean ====
section
/-! DEFINITION. One arm per row of spec/opcode_table.json. -/

namespace Sys2Proof.Machine

def exec (i : Instr) (s : State) : Host.Outcome State Fault Refusal :=
  match i with
  | .crc7 msg => Sys2Proof.Machine.execCrc7 msg s
  | .frame c a => Sys2Proof.Machine.execFrame c a s
  | .xr1 c a => Sys2Proof.Machine.execXr1 c a s
  | .xcmd c a n => Sys2Proof.Machine.execXcmd c a n s
  | .rdblk a => Sys2Proof.Machine.execRdblk a s
  | .init b o t => Sys2Proof.Machine.execInit b o t s
  | .reservedOp x => Sys2Proof.Machine.execReservedOp x s
  | .cmdn c a k => Sys2Proof.Machine.execCmdn c a k s
  | .cmd0 => Sys2Proof.Machine.execCmd0 s
  | .cmd8 => Sys2Proof.Machine.execCmd8 s
  | .cmd55 => Sys2Proof.Machine.execCmd55 s
  | .acmd41 => Sys2Proof.Machine.execAcmd41 s
  | .cmd58 => Sys2Proof.Machine.execCmd58 s
  | .cmd17 a k => Sys2Proof.Machine.execCmd17 a k s
  | .r1 f => Sys2Proof.Machine.execR1 f s
  | .r3r7 f p1 p2 p3 p4 => Sys2Proof.Machine.execR3r7 f p1 p2 p3 p4 s
  | .stValid f => Sys2Proof.Machine.execStValid f s
  | .stSkip x => Sys2Proof.Machine.execStSkip x s
  | .tkFill => Sys2Proof.Machine.execTkFill s
  | .tkStart => Sys2Proof.Machine.execTkStart s
  | .tkOther t => Sys2Proof.Machine.execTkOther t s
  | .success => Sys2Proof.Machine.execSuccess s
  | .timeout => Sys2Proof.Machine.execTimeout s
  | .notSupported => Sys2Proof.Machine.execNotSupported s
  | .badResponse => Sys2Proof.Machine.execBadResponse s
  | .checksumError => Sys2Proof.Machine.execChecksumError s

end Sys2Proof.Machine
end

