-- ==== Sys2Proof/Machine/Sequencer.lean ====
section
/-! DEFINITION. The sequencer: what the next step takes, and from which port (10_state.md R23; 42_exchange.md R156;
30_encoding.md R92). At event grain a step is one transport event or one ending (92_eei_decisions.md D30). -/

namespace Sys2Proof.Machine

/-- What the next step does. -/
inductive Fetched where
  /-- Nothing is pending: SEQ is IDLE and the host has issued nothing. -/
  | quiet
  /-- A transport event, or a byte of a CRC7, that has no row of its own in the opcode table. -/
  | act (s : State)
  /-- A word at the port in force, and the state with it taken. -/
  | word (p : PortWord) (s : State)
deriving DecidableEq, Repr

/-- The host port: the oldest request is taken and OP holds its operation (R21, R62). -/
def takeRequest (r : Request) (rest : List Request) (s : State) : State :=
  { s with host := rest, op := (Op.ofCode? r.code).getD s.op }

/-- Begin an exchange: its operands are loaded and the bus acquired (R155, R156). -/
def beginExchange (ret : Seq) (c : BitVec 6) (a : BitVec 32) (n : Nat) (s : State) : State :=
  acquireBus (loadExchange ret c a n s)

/-- Begin an attempt of the negotiation (R174). -/
def beginAttempt (s : State) : State :=
  beginExchange .iS3A 55#6 zeroArg 1 { s with attCnt := s.attCnt - 1 }

/-- The word at the response port of an XCMD by RLEN: R1, R3R7, or a length without a row of its own (R155, R98). -/
def fetchResponse (s : State) : Fetched :=
  if s.rlen = 1 then .word (.respR1 s.status) s
  else if s.rlen = 5 then
    .word (.respR3R7 ((((s.status ++ s.rxAt 0) ++ s.rxAt 1) ++ s.rxAt 2) ++ s.rxAt 3)) (s.rxDrop 4)
  else .act (takePayload s.rlen s)

/-- The sequencer's next event, where no result class is due. XCMD follows the table of R156. For RDBLK and INIT the spec has
no transition table: where SEQ stands between two of their events is the model's choice. DESIGN CHOICE,
notes/assumptions/20.md. -/
def sequencerEvent (s : State) : Fetched :=
  match s.seq with
  | .idle =>
    match s.host with
    | [] => .quiet
    | r :: rest => .word (.op r.code r.opr) (takeRequest r rest s)
  | .cRun => .act (crcAbsorb s)
  | .xAcq => .act (pulse s)
  | .xPulse => .word (.frame48 (frameWord s.cmd s.arg)) s
  | .xSend => .word (.statusPoll (s.rxAt 0)) (s.rxDrop 1)
  | .xPoll =>
    if validStatus s.status then fetchResponse s else .word (.statusPoll (s.rxAt 0)) (s.rxDrop 1)
  | .bCheck => .word (.tokenPoll (s.rxAt 0)) (s.rxDrop 1)
  | .bToken =>
    if isFiller s.token then .word (.tokenPoll (s.rxAt 0)) (s.rxDrop 1) else .act (takeData s)
  | .bData => .act (drainChecksum s)
  | .iCfg => if s.ret = .iS1 then .act (beginExchange .iS1 0#6 zeroArg 1 s) else .act (preamble s)
  | .iS1 => .act (beginExchange .iS2 8#6 checkArg 5 s)
  | .iS2 => .act (beginAttempt s)
  | .iS3A => .act (beginExchange .iS3B 41#6 hcsArg 1 s)
  | .iS3B => if cardReady s then .act (beginExchange .iS4 58#6 zeroArg 5 s) else .act (beginAttempt s)
  | .iS4 => .act (configure s.ctxDiv { s with seq := .iS5 })
  | .xPayload | .xRel | .bRel | .iS5 => .quiet

/-- The fetch: the result class that is due, else the sequencer's next event. -/
def fetch (s : State) : Fetched :=
  match dueClass s with
  | some r => .word (.resultCode r.code) s
  | none => sequencerEvent s

/-- The first event of an operation at event grain; an instruction that is one event (FRAME, and every row below the
operations) is executed whole. The admission is exec's own. -/
def beginOperation (i : Instr) (s : State) : Host.Outcome State Fault Refusal :=
  match i with
  | .crc7 msg =>
    match admitted s with
    | some r => .refused r
    | none => .next (crcBegin msg s)
  | .xcmd c a n =>
    match xcmdAdmitted n s with
    | some r => .refused r
    | none => .next (beginExchange .idle c a n s)
  | .rdblk a =>
    match rdblkAdmitted s with
    | some r => .refused r
    | none => .next (acquireBus (loadRead a s))
  | .init b o t =>
    match admitted s with
    | some r => .refused r
    | none => .next (initBegin b o t s)
  | .frame _ _ | .xr1 _ _ | .reservedOp _
  | .cmdn _ _ _ | .cmd0 | .cmd8 | .cmd55 | .acmd41 | .cmd58 | .cmd17 _ _
  | .r1 _ | .r3r7 _ _ _ _ _ | .stValid _ | .stSkip _ | .tkFill | .tkStart | .tkOther _
  | .success | .timeout | .notSupported | .badResponse | .checksumError => exec i s

/-- XR1 is the one operation the host may not issue (R95, D2: a model "must not expose XR1"). -/
def hostMayIssue : Instr → Bool
  | .xr1 _ _ => false
  | _ => true

/-- Run an instruction taken from a port. At the host port XR1 is refused, and at event grain an operation begins. -/
def runWord (i : Instr) (s : State) : Host.Outcome State Fault Refusal :=
  if hostMayIssue i then
    match s.grain with
    | .operation => exec i s
    | .event => beginOperation i s
  else .refused .internalOperation

/-- Place a word where the next step takes it: the port's contents and the sequencer point that selects the port. -/
def placeWord (p : PortWord) (s : State) : State :=
  match p with
  | .op code o =>
    { s with seq := .idle, busHeld := false, ret := .idle, grain := .operation, host := ⟨code, o⟩ :: s.host }
  | .frame48 w =>
    { s with seq := .xPulse, busHeld := true, cmd := w.extractLsb' 40 6, arg := w.extractLsb' 8 32 }
  | .respR1 b => { s with seq := .xPoll, busHeld := true, status := b, rlen := 1 }
  | .respR3R7 w =>
    { s with
      seq := .xPoll, busHeld := true, status := w.extractLsb' 32 8, rlen := 5,
      rx := w.extractLsb' 24 8 :: w.extractLsb' 16 8 :: w.extractLsb' 8 8 :: w.extractLsb' 0 8 :: s.rx }
  | .statusPoll b =>
    { s with seq := .xSend, busHeld := true, pollCnt := max 1 s.pollCnt, rx := b :: s.rx }
  | .tokenPoll b =>
    { s with
      seq := .bToken, busHeld := true, ret := .bCheck, token := filler, pollCnt := max 1 s.pollCnt, rx := b :: s.rx }
  | .resultCode r =>
    if r = Result.success.code then { s with seq := .bRel, busHeld := true, ret := .bCheck }
    else if r = Result.timeout.code then { s with seq := .xSend, busHeld := true, pollCnt := 0 }
    else if r = Result.notSupported.code then
      { s with seq := .iS2, busHeld := false, result := .success, resp := Vector.replicate 5 0#8 }
    else { s with seq := .bCheck, busHeld := true, ret := .bCheck, status := r1Idle }

end Sys2Proof.Machine
end

