-- ==== Sys2Proof/Machine/Step.lean ====
section
/-! DEFINITION. The step (92_eei_decisions.md D30): take the word at the port in force, decode it, run it; or make the
sequencer's own event; or, with nothing pending, stay. -/

namespace Sys2Proof.Machine

def step (s : State) : Host.Outcome State Fault Refusal :=
  match fetch s with
  | .quiet => .next s
  | .act s' => .next s'
  | .word p s' =>
    match decode p with
    | .error e => .refused (.undecodable e)
    | .ok i => runWord i s'

/-- The state with a word of the opcode table's numbering placed where the next step takes it (notes/assumptions/13.md). -/
def State.withFetchWord (s : State) (nbits w : Nat) : State :=
  match tableWord nbits w with
  | none => s
  | some p => placeWord p s

end Sys2Proof.Machine
end

