-- ==== Sys2Proof/Safety.lean ====
section
/-! DEFINITION. What counts as a safe run: the discipline of the transport events (20_memory.md R54, R57; 70_reset_and_hazards.md
R235, R237), and the invariants every step keeps. -/

namespace Sys2Proof.Machine

/-- How far the transaction of the newest event has come: none open, acquired, settled by the idle clock, frame sent. -/
inductive Phase where
  | free | acquired | settled | sent
deriving DecidableEq, Repr

/-- Six bytes the framer could have built: leading bits 01, and byte 5 the checksum of the first five with the stop bit
(30_encoding.md R80, R89). -/
def goodFrame : List Byte → Bool
  | [b0, b1, b2, b3, b4, b5] =>
    decide (b0.extractLsb' 6 2 = 1#2) && decide (b5 = crc7 [b0, b1, b2, b3, b4] ||| stopBit)
  | _ => false

/-- The length of a multi-byte reception the block makes: a payload of 1 to 4 bytes, two checksum bytes, or a block (R54,
R195). -/
def legalReception (n : Nat) : Bool := (decide (1 ≤ n) && decide (n ≤ 4)) || decide (n = blockLen)

/-- The phase after an event, none where the discipline forbids it. Inside one scope the order is `begin`, `idle(1)`,
`send(frame)`, receptions, `end`; configuration and the optional preamble stand outside any scope (R57, R171, R181). -/
def Phase.after : Phase → Event → Option Phase
  | .free, .cfg _ .msbFirst .mode0 => some .free
  | .free, .idle _ => some .free
  | .free, .acquire => some .acquired
  | .acquired, .idle 1 => some .settled
  | .settled, .send bs => if goodFrame bs then some .sent else none
  | .sent, .rx _ => some .sent
  | .sent, .rxn bs => if legalReception bs.length then some .sent else none
  | .sent, .release => some .free
  | _, _ => none

/-- The phase after a history, given newest event first; none when the discipline was broken. -/
def tracePhase : List Event → Option Phase
  | [] => some .free
  | e :: older =>
    match tracePhase older with
    | none => none
    | some p => p.after e

/-- The phase a sequencer state stands for (R23, R156). -/
def seqPhase : Seq → Phase
  | .idle | .cRun | .iCfg | .iS1 | .iS2 | .iS3A | .iS3B | .iS4 | .iS5 => .free
  | .xAcq => .acquired
  | .xPulse => .settled
  | .xSend | .xPoll | .xPayload | .xRel | .bCheck | .bToken | .bData | .bRel => .sent

/-- The invariant every step keeps: TX follows the discipline and SEQ says how far; BUS_HELD is 1 exactly inside a
transaction (R26, R213 (b)); RLEN is a legal length (R20); RESULT is never CHECKSUM_ERROR (R205); anything but a checksum
runs only with a context (R213 (c)). -/
abbrev Inv (s : State) : Prop :=
  tracePhase s.txRev = some (seqPhase s.seq) ∧
  s.busHeld = decide (seqPhase s.seq ≠ .free) ∧
  legalRlen s.rlen = true ∧
  s.result ≠ .checksumError ∧
  (s.seq ≠ .idle → s.seq ≠ .cRun → s.ctxValid = true)

/-- The budgets never exceed what they were loaded with (R128, R214, R215; the width column of 10_state.md R20). -/
abbrev CountersBounded (s : State) : Prop :=
  s.attCnt ≤ s.cfg.negAttempts ∧
  (s.seq = .xSend ∨ s.seq = .xPoll → s.pollCnt ≤ s.ctxTb) ∧
  (s.seq = .bToken ∨ (s.seq = .bCheck ∧ s.status = 0#8) → s.pollCnt ≤ s.cfg.tokenPolls)

/-- The bytes the events of a history received, in the order of the list. -/
def receivedBytes : List Event → List Byte
  | [] => []
  | .rx b :: es => b :: receivedBytes es
  | .rxn bs :: es => bs ++ receivedBytes es
  | .cfg _ _ _ :: es => receivedBytes es
  | .acquire :: es => receivedBytes es
  | .release :: es => receivedBytes es
  | .idle _ :: es => receivedBytes es
  | .send _ :: es => receivedBytes es

/-- No operation is running and none of its leftovers stand: where the host issues the next one (R213, R243). -/
abbrev Quiescent (s : State) : Prop := s.seq = .idle ∧ s.busHeld = false ∧ s.ret = .idle ∧ s.msgIn = []

end Sys2Proof.Machine
end

