-- ==== Sys2Proof/Certificates/Slice0/Obligations.lean ====
section
/-! DEFINITION. The statements for the provers. The words of the spec they formalise stand in OBLIGATIONS.json and in the
docstrings. `Sys2Proof.Spec` holds the vocabulary they share: what the bytes of RX from an offset on say. -/

namespace Sys2Proof.Spec

open Sys2Proof.Machine

/-- The `n` bytes of RX from offset `p` on. -/
def rxFrom (s : State) (p n : Nat) : List Byte := (List.range n).map (fun j => s.rxAt (p + j))

/-- The `n` bytes of RX from offset `p` on all have bit 7 set: not yet a response (30_encoding.md R92). -/
def AllSkip (s : State) (p n : Nat) : Prop := ∀ j, j < n → (s.rxAt (p + j)).getLsbD 7 = true

/-- The first valid status byte of RX from offset `p` on stands at `p + k` (42_exchange.md R150, R157). -/
def FirstValid (s : State) (p k : Nat) : Prop := AllSkip s p k ∧ (s.rxAt (p + k)).getLsbD 7 = false

/-- The `n` bytes of RX from offset `p` on are all filler (44_block_read.md R192). -/
def AllFiller (s : State) (p n : Nat) : Prop := ∀ j, j < n → s.rxAt (p + j) = 0xFF#8

/-- The bytes of FRAME_BUF, letter by letter of 41_framer.md R140. -/
def frame (c : BitVec 6) (a : BitVec 32) : Vector Byte 6 :=
  #v[0x40#8 ||| c.setWidth 8, a.extractLsb' 24 8, a.extractLsb' 16 8, a.extractLsb' 8 8, a.extractLsb' 0 8,
    [0x40#8 ||| c.setWidth 8, a.extractLsb' 24 8, a.extractLsb' 16 8, a.extractLsb' 8 8,
      a.extractLsb' 0 8].foldl crcByte 0x00#8 ||| 0x01#8]

/-- The checksum before the stop bit, what FRAME leaves in ACC and CRC_OUT (R140). -/
def frameCheck (c : BitVec 6) (a : BitVec 32) : Byte :=
  [0x40#8 ||| c.setWidth 8, a.extractLsb' 24 8, a.extractLsb' 16 8, a.extractLsb' 8 8, a.extractLsb' 0 8].foldl crcByte 0x00#8

/-- The host operations are admitted (60_exceptions.md R213 (a), (b)). -/
def Free (s : State) : Prop := s.seq = .idle ∧ s.busHeld = false

/-- The events of one transaction: acquire, one idle clock, the frame, the receptions, release (20_memory.md R57). -/
def transaction (c : BitVec 6) (a : BitVec 32) (receptions : List Event) : List Event :=
  [.acquire, .idle 1, .send (frame c a).toList] ++ receptions ++ [.release]

/-- TX extended by events given oldest first. -/
def extend (s : State) (es : List Event) : List Event := es.reverse ++ s.txRev

/-- Where the status poll of `n` attempts from offset `p` finds its valid byte, counted from `p`; none on a timeout (R153). -/
def pollEnd (s : State) (n p : Nat) : Option Nat :=
  (List.range n).find? (fun k => !(s.rxAt (p + k)).getLsbD 7)

/-- The offset after an exchange of `l` response bytes from offset `p` on (R157). -/
def afterExchange (s : State) (n l p : Nat) : Nat :=
  match pollEnd s n p with
  | some k => p + k + l
  | none => p + n

/-- An attempt of the negotiation from offset `p` on ends ready: its command 41 exchange got a valid status byte, and it
is 0x00 (43_handshake.md R175). -/
def attemptReady (s : State) (n p : Nat) : Bool :=
  match pollEnd s n (afterExchange s n 1 p) with
  | some k => decide (s.rxAt (afterExchange s n 1 p + k) = 0x00#8)
  | none => false

/-- The negotiation with at most `m` attempts from offset `p` on: ready or not, attempts made, offset after them (R174,
R175, R176). -/
def negotiation (s : State) (n : Nat) : Nat → Nat → Bool × Nat × Nat
  | 0, p => (false, 0, p)
  | m + 1, p =>
    if attemptReady s n p then (true, 1, afterExchange s n 1 (afterExchange s n 1 p))
    else
      let r := negotiation s n m (afterExchange s n 1 (afterExchange s n 1 p))
      (r.1, r.2.1 + 1, r.2.2)

/-- How an INIT ends, read off the bytes of RX: its class, the bytes taken, the transactions made, the negotiation
attempts made if step 3 was reached. -/
structure InitEnding where
  result : Result
  taken : Nat
  transactions : Nat
  attempts : Option Nat
deriving DecidableEq, Repr

/-- Step 4 from offset `p` on after `a` attempts (R177, R178, in the document's order). -/
def capacityEnding (s : State) (n a p : Nat) : InitEnding :=
  match pollEnd s n p with
  | none => ⟨.timeout, p + n, 2 * a + 3, some a⟩
  | some k =>
    ⟨if s.rxAt (p + k) &&& 0xFE#8 ≠ 0#8 then .badResponse
     else if s.rxAt (p + k + 1) &&& 0x40#8 = 0#8 then .notSupported
     else if s.rxAt (p + k + 1) &&& 0x80#8 = 0#8 then .badResponse
     else .success, p + k + 5, 2 * a + 3, some a⟩

/-- Steps 2 and 3 from offset `p` on (R173 to R176). -/
def interfaceEnding (s : State) (n m p : Nat) : InitEnding :=
  match pollEnd s n p with
  | none => ⟨.timeout, p + n, 2, none⟩
  | some k =>
    if (s.rxAt (p + k)).getLsbD 0 = true ∧ (s.rxAt (p + k + 3)).getLsbD 0 = true ∧ s.rxAt (p + k + 4) = 0xAA#8 then
      let r := negotiation s n m (p + k + 5)
      if r.1 then capacityEnding s n r.2.1 r.2.2 else ⟨.timeout, r.2.2, 2 * r.2.1 + 2, some r.2.1⟩
    else ⟨.notSupported, p + k + 5, 2, none⟩

/-- The table of R180 over the bytes of RX: timeout bound `n`, at most `m` attempts. -/
def initEnding (s : State) (n m : Nat) : InitEnding :=
  match pollEnd s n 0 with
  | none => ⟨.timeout, n, 1, none⟩
  | some k => if s.rxAt k = 0x01#8 then interfaceEnding s n m (k + 1) else ⟨.timeout, k + 1, 1, none⟩

/-- The frames an INIT sends, cut after its transactions: command 0, command 8, a pair of commands 55 and 41 for each attempt,
command 58 (30_encoding.md R91, 43_handshake.md R172 to R177). -/
def handshakeFrames (e : InitEnding) : List (List Byte) :=
  ([[0x40#8, 0x00#8, 0x00#8, 0x00#8, 0x00#8, 0x95#8], [0x48#8, 0x00#8, 0x00#8, 0x01#8, 0xAA#8, 0x87#8]] ++
    (List.replicate (e.attempts.getD 0)
      [[0x77#8, 0x00#8, 0x00#8, 0x00#8, 0x00#8, 0x65#8], [0x69#8, 0x40#8, 0x00#8, 0x00#8, 0x00#8, 0x77#8]]).flatten ++
    [[0x7A#8, 0x00#8, 0x00#8, 0x00#8, 0x00#8, 0xFD#8]]).take e.transactions

/-- The last response an INIT received was one of five bytes: those of commands 8 and 58 (R173, R177). -/
def endsOnFiveBytes (e : InitEnding) : Bool := decide (e.result ≠ .timeout) || decide (e.attempts = some 0)

/-- The frames of a history, in order. -/
def framesSent (es : List Event) : List (List Byte) :=
  es.filterMap (fun e => match e with
    | .send bs => some bs
    | .cfg _ _ _ | .acquire | .release | .idle _ | .rx _ | .rxn _ => none)

/-- The `begin` events of a history. -/
def acquires (es : List Event) : Nat := es.countP (fun e => decide (e = .acquire))

/-- The `end` events of a history. -/
def releases (es : List Event) : Nat := es.countP (fun e => decide (e = .release))

/-- The events of a history that configure the transport. -/
def configurations (es : List Event) : List Event :=
  es.filter (fun e => match e with
    | .cfg _ _ _ => true
    | .acquire | .release | .idle _ | .send _ | .rx _ | .rxn _ => false)

/-- The acquisitions and releases of a history, in order. -/
def busEvents (es : List Event) : List Event :=
  es.filter (fun e => match e with
    | .acquire | .release => true
    | .cfg _ _ _ | .idle _ | .send _ | .rx _ | .rxn _ => false)

/-- In a history given newest event first, every frame stands directly after one idle clock, and that directly after the
acquisition of its transaction. -/
def FramesSettled (h : List Event) : Prop :=
  ∀ (newer older : List Event) (bs : List Byte), h = newer ++ .send bs :: older → ∃ o, older = .idle 1 :: .acquire :: o

/-- A byte as a polynomial over GF(2), bit i the coefficient of x^i. -/
noncomputable def bytePoly (b : Byte) : Polynomial (ZMod 2) :=
  (Finset.range 8).sum (fun i => if b.getLsbD i then Polynomial.X ^ i else 0)

/-- A message as a polynomial, the first byte's bit 7 the highest term (40_crc7.md R127). -/
noncomputable def msgPoly (m : List Byte) : Polynomial (ZMod 2) :=
  m.foldl (fun p b => p * Polynomial.X ^ 8 + bytePoly b) 0

/-- The 7-bit remainder in ACC[7:1] as a polynomial (R120). -/
noncomputable def remPoly (acc : Byte) : Polynomial (ZMod 2) :=
  (Finset.range 7).sum (fun i => if acc.getLsbD (i + 1) then Polynomial.X ^ i else 0)

end Sys2Proof.Spec

open Sys2Proof Sys2Proof.Machine Sys2Proof.Spec

/-! ### Encoding and decoding -/

/-- Decoding an encoded well-formed instruction gives it back, every operand at every value (30_encoding.md R80 to R101). -/
def Obligations.DecodeEncodeRoundTrip : Prop :=
  ∀ i : Instr, i.wellFormed = true → decode (encode i) = .ok i

/-- Where a word is not a host request (whose unused operands are dropped), it has one meaning and no bit of it is lost. -/
def Obligations.DecodedWordReencodes : Prop :=
  ∀ (p : PortWord) (i : Instr), (∀ c o, p ≠ .op c o) → decode p = .ok i → encode i = p

/-- Words written out from the tables of 30_encoding.md R90, R91, R92 and R101 decode to their rows. A sanity statement. -/
def Obligations.SpecWordsDecodeToTheirRows : Prop :=
  decode (.op 0b000#3 Operands.zero) = .ok (.crc7 []) ∧
  decode (.op 0b101#3 { Operands.zero with bound := 4 }) = .ok (.init ⟨0⟩ ⟨0⟩ 4) ∧
  decode (.op 0b110#3 Operands.zero) = .ok (.reservedOp 0#1) ∧
  decode (.frame48 0b010000000000000000000000000000000000000010010101#48) = .ok .cmd0 ∧
  decode (.frame48 0b010010000000000000000000000000011010101010000111#48) = .ok .cmd8 ∧
  decode (.frame48 0x51123456785D#48) = .ok (.cmd17 0x12345678#32 0x2E#7) ∧
  decode (.frame48 0x4D000000000D#48) = .ok (.cmdn 13#6 0#32 6#7) ∧
  decode (.respR3R7 0x01000001AA#40) = .ok (.r3r7 1#7 0x00#8 0x00#8 0x01#8 0xAA#8) ∧
  decode (.statusPoll 0b10000000#8) = .ok (.stSkip 0#7) ∧
  decode (.statusPoll 0xFE#8) = .ok (.stSkip 0x7E#7) ∧
  decode (.tokenPoll 0b11111110#8) = .ok .tkStart ∧
  decode (.resultCode 0b011#3) = .ok .badResponse ∧
  decode (.resultCode 0b101#3) = .error .resultCodeUnnamed

/-- 42_exchange.md R150: "A received byte b is a valid status byte exactly when `b[7] == 0`". No other bit takes part. -/
def Obligations.ValidStatusByteIsBitSevenClear : Prop :=
  (∀ b : Byte, (decode (.statusPoll b) = .ok (.stValid (b.extractLsb' 0 7)) ↔ b.getLsbD 7 = false) ∧
    (decode (.statusPoll b) = .ok (.stSkip (b.extractLsb' 0 7)) ↔ b.getLsbD 7 = true) ∧
    (validStatus b = true ↔ b.getLsbD 7 = false)) ∧
  (∀ b ∈ [0x00#8, 0x01#8, 0x05#8, 0x7F#8], validStatus b = true) ∧
  (∀ b ∈ [0x80#8, 0xFE#8, 0xFF#8], validStatus b = false)

/-- 30_encoding.md section 3 (token poll): 0xFF is filler, 0xFE the start token, each of the other 254 an unexpected token. -/
def Obligations.TokenByteClasses : Prop :=
  decode (.tokenPoll 0xFF#8) = .ok .tkFill ∧ decode (.tokenPoll 0xFE#8) = .ok .tkStart ∧
  ∀ b : Byte, b ≠ 0xFF#8 → b ≠ 0xFE#8 → decode (.tokenPoll b) = .ok (.tkOther b)

/-- A step runs the instruction decoded at the port in force: at the host port the oldest request is taken and OP holds its
operation; at the poll ports one byte of RX is taken; at the response port of five bytes, four. `s` is any state in which
the port is in force. Where an operation is begun event by event instead (grain `event`), EventGrainRunsTheOperation says
what the steps together do. -/
def Obligations.StepRunsTheDecodedInstruction : Prop :=
  (∀ (s : State) (r : Request) (rest : List Request) (i : Instr),
    s.seq = .idle → s.grain = .operation → s.host = r :: rest → decode (.op r.code r.opr) = .ok i → hostMayIssue i = true →
    step s = exec i { s with host := rest, op := (Op.ofCode? r.code).getD s.op }) ∧
  (∀ (s : State) (i : Instr), s.seq = .xPulse → decode (.frame48 (frameWord s.cmd s.arg)) = .ok i → step s = exec i s) ∧
  (∀ (s : State) (i : Instr), statusPolling s = true → decode (.statusPoll (s.rxAt 0)) = .ok i →
    step s = exec i (s.rxDrop 1)) ∧
  (∀ (s : State) (i : Instr), tokenPolling s = true → decode (.tokenPoll (s.rxAt 0)) = .ok i →
    step s = exec i (s.rxDrop 1)) ∧
  (∀ (s : State) (i : Instr), responseDue s = true → s.rlen = 1 → decode (.respR1 s.status) = .ok i → step s = exec i s) ∧
  (∀ (s : State) (i : Instr), responseDue s = true → s.rlen = 5 →
    decode (.respR3R7 ((((s.status ++ s.rxAt 0) ++ s.rxAt 1) ++ s.rxAt 2) ++ s.rxAt 3)) = .ok i →
    step s = exec i (s.rxDrop 4)) ∧
  (∀ (s : State) (r : Result) (i : Instr), dueClass s = some r → decode (.resultCode r.code) = .ok i → step s = exec i s)

/-- With no operation running and nothing pending, a step changes nothing (the model's choice, notes/assumptions/6.md). -/
def Obligations.IdleWithoutRequestStays : Prop :=
  ∀ s : State, s.seq = .idle → s.host = [] → step s = .next s

/-- The host cannot issue XR1: the step refuses it whatever the state of the idle block, at either grain (30_encoding.md
section 4). -/
def Obligations.HostMayNotIssueXr1 : Prop :=
  ∀ (s : State) (o : Operands) (rest : List Request), s.seq = .idle → s.host = ⟨0b010#3, o⟩ :: rest →
    step s = .refused .internalOperation

/-! ### The CRC-7 generator -/

/-- 40_crc7.md R121 and R122: the bit step in both of its forms, the byte step as eight bit steps on the exclusive-or, and the
reference frame's 0x94, which the rejected reading does not give. -/
def Obligations.CrcStepAndByteRules : Prop :=
  (∀ acc : Byte,
    crcStep acc = (if acc.getLsbD 7 then (acc <<< 1) ^^^ 0x12#8 else acc <<< 1) ∧
    crcStep acc = (acc ^^^ (if acc.getLsbD 7 then 0x89#8 else 0x00#8)) <<< 1) ∧
  (∀ acc b : Byte, crcByte acc b = crcStep^[8] (acc ^^^ b)) ∧
  (0x89#8 : Byte) <<< 1 = 0x12#8 ∧ crc7 [0x40#8, 0x00#8, 0x00#8, 0x00#8, 0x00#8] = 0x94#8

/-- 40_crc7.md section 3, law 2: the checksum is linear over exclusive-or for messages of equal length. -/
def Obligations.ChecksumIsLinear : Prop :=
  ∀ m n : List Byte, m.length = n.length → crc7 (List.zipWith (· ^^^ ·) m n) = crc7 m ^^^ crc7 n

/-- 40_crc7.md section 3, laws 1 and 3: the checksum of any message has bit 0 clear, and leading zero bytes do not change it. -/
def Obligations.ChecksumBitZeroAndLeadingZeros : Prop :=
  (∀ m : List Byte, (crc7 m).getLsbD 0 = false) ∧
  (∀ (n : Nat) (m : List Byte), crc7 (List.replicate n 0x00#8 ++ m) = crc7 m)

/-- 40_crc7.md section 3, law 4: CRC7(MSG)[7:1] is (m(x)·x^7) mod (x^7 + x^3 + 1). -/
def Obligations.ChecksumIsThePolynomialRemainder : Prop :=
  ∀ m : List Byte, ∃ q : Polynomial (ZMod 2),
    msgPoly m * Polynomial.X ^ 7 = q * (Polynomial.X ^ 7 + Polynomial.X ^ 3 + 1) + remPoly (crc7 m)

/-- 40_crc7.md section 3, law 5: every single-bit change of a message changes its checksum, at every length. -/
def Obligations.SingleBitChangeChangesChecksum : Prop :=
  ∀ (before after : List Byte) (b : Byte) (j : Nat), j < 8 →
    crc7 (before ++ (b ^^^ (1#8 <<< j)) :: after) ≠ crc7 (before ++ b :: after)

/-- A message followed by its own checksum has checksum 0x00 (40_crc7.md section 2, corner cases). -/
def Obligations.MessageWithItsChecksumHasResidueZero : Prop :=
  ∀ m : List Byte, crc7 (m ++ [crc7 m]) = 0x00#8

/-- CRC7 completes from every idle state, with or without a context, and writes ACC and CRC_OUT and nothing else
(40_crc7.md section 2). -/
def Obligations.Crc7Completes : Prop :=
  ∀ (s : State) (m : List Byte), Free s →
    exec (.crc7 m) s = .next { s with acc := m.foldl crcByte 0x00#8, crcOut := m.foldl crcByte 0x00#8 }

/-! ### The framer -/

/-- FRAME completes from every state. 30_encoding.md R87: byte 0 is 0x40 or-ed with the command, bit 7 clear and bit 6 set.
R88 and 20_memory.md R50: bytes 1 to 4 are the argument, most significant byte first. R89: byte 5 is the checksum of the first
five bytes with its lowest bit forced to 1, and the checksum itself has bit 0 clear. -/
def Obligations.FrameBuildsSixBytes : Prop :=
  ∀ (s : State) (c : BitVec 6) (a : BitVec 32), ∃ t : State, exec (.frame c a) s = .next t ∧
    t.frameBuf[0] = 0x40#8 ||| c.setWidth 8 ∧ t.frameBuf[0].getLsbD 7 = false ∧ t.frameBuf[0].getLsbD 6 = true ∧
    t.frameBuf[1] = a.extractLsb' 24 8 ∧ t.frameBuf[2] = a.extractLsb' 16 8 ∧
    t.frameBuf[3] = a.extractLsb' 8 8 ∧ t.frameBuf[4] = a.extractLsb' 0 8 ∧
    t.frameBuf[5] = crc7 [t.frameBuf[0], t.frameBuf[1], t.frameBuf[2], t.frameBuf[3], t.frameBuf[4]] ||| 0x01#8 ∧
    (crc7 [t.frameBuf[0], t.frameBuf[1], t.frameBuf[2], t.frameBuf[3], t.frameBuf[4]]).getLsbD 0 = false

/-- FRAME's whole effect (41_framer.md section on FRAME, state written): the frame, ACC and CRC_OUT through the checksum, and
the operand registers CMD and ARG (that they are loaded when the operation is issued is the model's reading,
notes/assumptions/10.md); nothing else changes. -/
def Obligations.FrameWritesNothingElse : Prop :=
  ∀ (s : State) (c : BitVec 6) (a : BitVec 32),
    exec (.frame c a) s = .next { s with
      cmd := c, arg := a, frameBuf := Spec.frame c a, acc := frameCheck c a, crcOut := frameCheck c a }

/-- 41_framer.md section on what a receiver can check: the residue of a frame. -/
def Obligations.FrameResidues : Prop :=
  ∀ (c : BitVec 6) (a : BitVec 32),
    crc7 (frameHead c a ++ [frameByte5 c a &&& 0xFE#8]) = 0x00#8 ∧ crc7 (frameBytes c a).toList = 0x12#8

/-- 41_framer.md (the framer as a combinational function): the six bytes are the 48 bits `01 c a k 1` in wire order, and
the function is injective. -/
def Obligations.FrameWordIsWireOrderAndInjective : Prop :=
  (∀ (c : BitVec 6) (a : BitVec 32), bytesOfFrame (frameWord c a) = (frameBytes c a).toList) ∧
  (∀ (c c' : BitVec 6) (a a' : BitVec 32), (frameBytes c a).toList = (frameBytes c' a').toList → c = c' ∧ a = a')

/-! ### The exchange -/

/-- XCMD completes with SUCCESS when a valid status byte comes within the budget, the last permitted attempt included:
every register it writes, every event it makes, and the frame (42_exchange.md sections 1 to 4; that the wanted byte on the
last attempt wins is the spec's decision D9). RESP past RLEN keeps its contents. -/
def Obligations.XcmdSuccess : Prop :=
  ∀ (s : State) (c : BitVec 6) (a : BitVec 32) (l k : Nat),
    Free s → s.ctxValid = true → 1 ≤ l → l ≤ 5 → k < s.ctxTb → FirstValid s 0 k →
    exec (.xcmd c a l) s = .next { s with
      cmd := c, arg := a, rlen := l, ret := .idle,
      frameBuf := Spec.frame c a, acc := frameCheck c a, crcOut := frameCheck c a,
      pollCnt := s.ctxTb - (k + 1), status := s.rxAt k,
      resp := Vector.ofFn (fun i : Fin 5 => if i.val < l then s.rxAt (k + i.val) else s.resp[i]),
      result := .success,
      rx := s.rx.drop (k + l), rxPos := s.rxPos + (k + l),
      txRev := extend s (transaction c a ((rxFrom s 0 (k + 1)).map .rx ++
        (if l = 1 then [] else [.rxn (rxFrom s (k + 1) (l - 1))]))) }

/-- XCMD completes with TIMEOUT after exactly CTX_TB attempts when no valid byte comes: no payload is read, RESP is a draw,
STATUS the last byte observed, a draw when CTX_TB is 0 (42_exchange.md sections 1 to 3; decisions D10, D11). For every
value drawn. -/
def Obligations.XcmdTimeout : Prop :=
  ∀ (s : State) (c : BitVec 6) (a : BitVec 32) (l : Nat),
    Free s → s.ctxValid = true → 1 ≤ l → l ≤ 5 → AllSkip s 0 s.ctxTb →
    ∃ (st : Byte) (drawn : Vector Byte 5) (d : Nat),
      exec (.xcmd c a l) s = .next { s with
        cmd := c, arg := a, rlen := l, ret := .idle,
        frameBuf := Spec.frame c a, acc := frameCheck c a, crcOut := frameCheck c a,
        pollCnt := 0, status := st, resp := drawn, draw := d,
        result := .timeout,
        rx := s.rx.drop s.ctxTb, rxPos := s.rxPos + s.ctxTb,
        txRev := extend s (transaction c a ((rxFrom s 0 s.ctxTb).map .rx)) } ∧
      (s.ctxTb ≠ 0 → st = s.rxAt (s.ctxTb - 1))

/-- XCMD ends from every admitted state, with SUCCESS or TIMEOUT and no other class, after at most CTX_TB + 4 bytes
received, in one transaction (42_exchange.md section 4, counts and termination). -/
def Obligations.XcmdAlwaysEnds : Prop :=
  ∀ (s : State) (c : BitVec 6) (a : BitVec 32) (l : Nat),
    Free s → s.ctxValid = true → 1 ≤ l → l ≤ 5 →
    ∃ (t : State) (middle : List Event), exec (.xcmd c a l) s = .next t ∧
      (t.result = .success ∨ t.result = .timeout) ∧ t.rxPos ≤ s.rxPos + s.ctxTb + 4 ∧
      t.tx = s.tx ++ [.acquire] ++ middle ++ [.release] ∧ acquires middle = 0 ∧ releases middle = 0 ∧
      t.busHeld = false ∧ t.seq = .idle

/-- What is refused, operation by operation, makes no next state (60_exceptions.md section 6; 30_encoding.md section 4;
decisions D8, D22, D23), and XR1's two preconditions (42_exchange.md section 2). -/
def Obligations.RefusedRequests : Prop :=
  (∀ (s : State) (m : List Byte), s.seq ≠ .idle → exec (.crc7 m) s = .refused .busy) ∧
  (∀ (s : State) c a l, s.seq ≠ .idle → exec (.xcmd c a l) s = .refused .busy) ∧
  (∀ (s : State) a, s.seq ≠ .idle → exec (.rdblk a) s = .refused .busy) ∧
  (∀ (s : State) b o n, s.seq ≠ .idle → exec (.init b o n) s = .refused .busy) ∧
  (∀ (s : State) c a l, Free s → s.ctxValid = false → exec (.xcmd c a l) s = .refused .noContext) ∧
  (∀ (s : State) a, Free s → s.ctxValid = false → exec (.rdblk a) s = .refused .noContext) ∧
  (∀ (s : State) c a l, Free s → s.ctxValid = true → (l = 0 ∨ 5 < l) →
    exec (.xcmd c a l) s = .refused .badResponseLength) ∧
  (∀ (s : State) (i : Instr), s.seq = .idle → s.busHeld = true →
    ((∃ m, i = .crc7 m) ∨ (∃ c a l, i = .xcmd c a l) ∨ (∃ a, i = .rdblk a) ∨ (∃ b o n, i = .init b o n)) →
    exec i s = .refused .busAlreadyHeld) ∧
  (∀ (s : State) c a, s.busHeld = true → exec (.xr1 c a) s = .refused .busAlreadyHeld) ∧
  (∀ (s : State) c a, s.busHeld = false → s.ctxValid = false → exec (.xr1 c a) s = .refused .noContext)

/-- XR1 completes with the bus held, RESULT the class it returned: SUCCESS on a valid byte, TIMEOUT otherwise; RESP and DATA
untouched (42_exchange.md section 2, 10_state.md section 2; that RESULT is written by the operation XR1 and not by the XR1 that
XCMD and RDBLK call is the model's reading of the spec's passages, notes/assumptions/9.md; that XR1 run by itself leaves SEQ at
X_POLL, or at X_SEND when CTX_TB is 0, is the model's choice, notes/assumptions/20.md). -/
def Obligations.Xr1LeavesTheBusHeld : Prop :=
  ∀ (s : State) (c : BitVec 6) (a : BitVec 32), s.busHeld = false → s.ctxValid = true →
    (∀ k, k < s.ctxTb → FirstValid s 0 k →
      exec (.xr1 c a) s = .next { s with
        cmd := c, arg := a, seq := .xPoll, busHeld := true,
        frameBuf := Spec.frame c a, acc := frameCheck c a, crcOut := frameCheck c a,
        pollCnt := s.ctxTb - (k + 1), status := s.rxAt k, result := .success,
        rx := s.rx.drop (k + 1), rxPos := s.rxPos + (k + 1),
        txRev := extend s ([.acquire, .idle 1, .send (Spec.frame c a).toList] ++ (rxFrom s 0 (k + 1)).map .rx) }) ∧
    (AllSkip s 0 s.ctxTb → ∃ (st : Byte) (d : Nat),
      exec (.xr1 c a) s = .next { s with
        cmd := c, arg := a, seq := (if s.ctxTb = 0 then .xSend else .xPoll), busHeld := true,
        frameBuf := Spec.frame c a, acc := frameCheck c a, crcOut := frameCheck c a,
        pollCnt := 0, status := st, draw := d, result := .timeout,
        rx := s.rx.drop s.ctxTb, rxPos := s.rxPos + s.ctxTb,
        txRev := extend s ([.acquire, .idle 1, .send (Spec.frame c a).toList] ++ (rxFrom s 0 s.ctxTb).map .rx) } ∧
      (s.ctxTb ≠ 0 → st = s.rxAt (s.ctxTb - 1) ∧ d = s.draw))

/-- The transitions of SEQ during an XCMD the host issued, one transport event each, at event grain (42_exchange.md
section 4, the table). -/
def Obligations.XcmdTransitions : Prop :=
  (∀ (s : State) (c : BitVec 6) (a : BitVec 32) (l : Nat) (o : Operands) (rest : List Request),
    Free s → s.grain = .event → s.ctxValid = true → 1 ≤ l → l ≤ 5 →
    s.host = ⟨0b011#3, { o with cmd := c, arg := a, rlen := l }⟩ :: rest →
    step s = .next { s with
      host := rest, op := .xcmd, cmd := c, arg := a, rlen := l, ret := .idle, busHeld := true, seq := .xAcq,
      txRev := .acquire :: s.txRev }) ∧
  (∀ s : State, s.seq = .xAcq → step s = .next { s with seq := .xPulse, txRev := .idle 1 :: s.txRev }) ∧
  (∀ s : State, s.seq = .xPulse → s.ctxTb ≠ 0 → step s = .next { s with
    seq := .xSend, pollCnt := s.ctxTb,
    frameBuf := Spec.frame s.cmd s.arg, acc := frameCheck s.cmd s.arg, crcOut := frameCheck s.cmd s.arg,
    txRev := .send (Spec.frame s.cmd s.arg).toList :: s.txRev }) ∧
  (∀ s : State, s.ret ≠ .bCheck → s.pollCnt ≠ 0 →
    (s.seq = .xSend ∨ (s.seq = .xPoll ∧ s.status.getLsbD 7 = true)) →
    step s = .next { s with
      seq := .xPoll, pollCnt := s.pollCnt - 1, status := s.rxAt 0, rx := s.rx.drop 1, rxPos := s.rxPos + 1,
      txRev := .rx (s.rxAt 0) :: s.txRev }) ∧
  (∀ s : State, s.ret = .idle → s.busHeld = true → s.pollCnt = 0 →
    (s.seq = .xSend ∨ (s.seq = .xPoll ∧ s.status.getLsbD 7 = true)) →
    ∃ (drawn : Vector Byte 5) (d : Nat), step s = .next { s with
      seq := .idle, busHeld := false, result := .timeout, resp := drawn, draw := d, txRev := .release :: s.txRev }) ∧
  (∀ s : State, s.seq = .xPoll → s.status.getLsbD 7 = false → 1 < s.rlen → s.rlen ≤ 5 →
    step s = .next { s with
      seq := .xPayload,
      resp := Vector.ofFn (fun i : Fin 5 =>
        if i.val = 0 then s.status else if i.val < s.rlen then s.rxAt (i.val - 1) else s.resp[i]),
      rx := s.rx.drop (s.rlen - 1), rxPos := s.rxPos + (s.rlen - 1),
      txRev := .rxn (rxFrom s 0 (s.rlen - 1)) :: s.txRev }) ∧
  (∀ s : State, s.seq = .xPoll → s.status.getLsbD 7 = false → s.rlen = 1 → s.ret = .idle → s.busHeld = true →
    step s = .next { s with
      seq := .idle, busHeld := false, result := .success,
      resp := Vector.ofFn (fun i : Fin 5 => if i.val = 0 then s.status else s.resp[i]),
      txRev := .release :: s.txRev }) ∧
  (∀ s : State, s.seq = .xPayload → s.ret = .idle → s.busHeld = true →
    step s = .next { s with seq := .idle, busHeld := false, result := .success, txRev := .release :: s.txRev })

/-! ### The block read -/

/-- 44_block_read.md R191: the command goes out by the R1 exchange, its poll bounded by CTX_TB. A timeout of the exchange is
propagated, and a valid status byte other than 0x00, the idle bit alone included, is BAD_RESPONSE; in both cases one release
is made, no token poll is started and DATA is unchanged. -/
def Obligations.RdblkStatusCheck : Prop :=
  ∀ (s : State) (a : BitVec 32), Free s → s.ctxValid = true →
    (AllSkip s 0 s.ctxTb → ∃ t : State, exec (.rdblk a) s = .next t ∧ t.result = .timeout ∧ t.seq = .idle ∧
      t.busHeld = false ∧ t.tx = s.tx ++ transaction 17#6 a ((rxFrom s 0 s.ctxTb).map .rx) ∧
      t.token = s.token ∧ t.data = s.data) ∧
    (∀ k, k < s.ctxTb → FirstValid s 0 k → s.rxAt k ≠ 0x00#8 → ∃ t : State, exec (.rdblk a) s = .next t ∧
      t.result = .badResponse ∧ t.seq = .idle ∧ t.busHeld = false ∧ t.status = s.rxAt k ∧
      t.tx = s.tx ++ transaction 17#6 a ((rxFrom s 0 (k + 1)).map .rx) ∧ t.token = s.token ∧ t.data = s.data)

/-- The whole effect of a block read that ends before its token poll (44_block_read.md sections 1 and 2): every register it
writes and its frame. STATUS at CTX_TB = 0 is a draw (decision D10), for every value drawn; that the sequencer's command 17 and
the address stand in CMD and ARG is the model's reading (notes/assumptions/10.md). -/
def Obligations.RdblkEarlyEndings : Prop :=
  ∀ (s : State) (a : BitVec 32), Free s → s.ctxValid = true →
    (AllSkip s 0 s.ctxTb → ∃ (st : Byte) (d : Nat),
      exec (.rdblk a) s = .next { s with
        cmd := 17#6, arg := a, ret := .idle,
        frameBuf := Spec.frame 17#6 a, acc := frameCheck 17#6 a, crcOut := frameCheck 17#6 a,
        pollCnt := 0, status := st, draw := d, result := .timeout,
        rx := s.rx.drop s.ctxTb, rxPos := s.rxPos + s.ctxTb,
        txRev := extend s (transaction 17#6 a ((rxFrom s 0 s.ctxTb).map .rx)) } ∧
      (s.ctxTb ≠ 0 → st = s.rxAt (s.ctxTb - 1) ∧ d = s.draw)) ∧
    (∀ k, k < s.ctxTb → FirstValid s 0 k → s.rxAt k ≠ 0x00#8 →
      exec (.rdblk a) s = .next { s with
        cmd := 17#6, arg := a, ret := .idle,
        frameBuf := Spec.frame 17#6 a, acc := frameCheck 17#6 a, crcOut := frameCheck 17#6 a,
        pollCnt := s.ctxTb - (k + 1), status := s.rxAt k, result := .badResponse,
        rx := s.rx.drop (k + 1), rxPos := s.rxPos + (k + 1),
        txRev := extend s (transaction 17#6 a ((rxFrom s 0 (k + 1)).map .rx)) })

/-- The token poll spends exactly TOKEN_POLLS attempts on filler and then returns TIMEOUT, DATA unchanged (44_block_read.md,
the token poll; the budget is 3000 in the document). -/
def Obligations.RdblkTokenTimeout : Prop :=
  ∀ (s : State) (a : BitVec 32) (k : Nat), Free s → s.ctxValid = true → k < s.ctxTb → FirstValid s 0 k →
    s.rxAt k = 0x00#8 → s.cfg.tokenPolls ≠ 0 → AllFiller s (k + 1) s.cfg.tokenPolls →
    exec (.rdblk a) s = .next { s with
      cmd := 17#6, arg := a, ret := .idle,
      frameBuf := Spec.frame 17#6 a, acc := frameCheck 17#6 a, crcOut := frameCheck 17#6 a,
      pollCnt := 0, status := 0x00#8, token := 0xFF#8, result := .timeout,
      rx := s.rx.drop (k + 1 + s.cfg.tokenPolls), rxPos := s.rxPos + (k + 1 + s.cfg.tokenPolls),
      txRev := extend s (transaction 17#6 a ((rxFrom s 0 (k + 1 + s.cfg.tokenPolls)).map .rx)) }

/-- 44_block_read.md R193, where the token poll has found a byte: 0xFF does not end the poll; 0xFE makes the block receive
exactly 512 bytes, each into its place of DATA, and, undrained, return SUCCESS; each of the other 254 makes it return
BAD_RESPONSE with no data byte read. -/
def Obligations.TokenCheckAtTheFoundByte : Prop :=
  ∀ s : State, s.seq = .bToken → s.ret = .bCheck → s.busHeld = true →
    (s.token = 0xFF#8 → s.pollCnt ≠ 0 → ∃ t : State, step s = .next t ∧ t.seq = .bToken ∧ t.token = s.rxAt 0 ∧
      t.data = s.data ∧ t.result = s.result) ∧
    (s.token = 0xFE#8 → ∃ t : State, step s = .next t ∧ t.tx = s.tx ++ [.rxn (s.rxTake 512)] ∧ t.rxPos = s.rxPos + 512 ∧
      (∀ i (h : i < 512), t.data[i] = s.rxAt i) ∧
      (s.cfg.drainCrc = false → ∃ u : State, step t = .next u ∧ u.result = .success ∧ u.seq = .idle ∧ u.busHeld = false ∧
        u.data = t.data ∧ u.tx = t.tx ++ [.release] ∧ u.rxPos = t.rxPos)) ∧
    (s.token ≠ 0xFF#8 → s.token ≠ 0xFE#8 → ∃ t : State, step s = .next t ∧ t.result = .badResponse ∧ t.seq = .idle ∧
      t.busHeld = false ∧ t.data = s.data ∧ t.rxPos = s.rxPos ∧ t.tx = s.tx ++ [.release])

/-- The whole effect of a block read whose token poll finds a byte within its attempts (44_block_read.md sections 1 and 2): the
start token, with the drained checksum when DRAIN_CRC is set (the model's parameter), and each other byte. That the last
permitted attempt counts is decision D9. -/
def Obligations.RdblkTokenEndings : Prop :=
  ∀ (s : State) (a : BitVec 32) (k j : Nat), Free s → s.ctxValid = true → k < s.ctxTb → FirstValid s 0 k →
    s.rxAt k = 0x00#8 → j < s.cfg.tokenPolls → AllFiller s (k + 1) j → s.rxAt (k + 1 + j) ≠ 0xFF#8 →
    (s.rxAt (k + 1 + j) = 0xFE#8 →
      exec (.rdblk a) s = .next { s with
        cmd := 17#6, arg := a, ret := .idle,
        frameBuf := Spec.frame 17#6 a, acc := frameCheck 17#6 a, crcOut := frameCheck 17#6 a,
        pollCnt := s.cfg.tokenPolls - (j + 1), status := 0x00#8, token := 0xFE#8, result := .success,
        data := Vector.ofFn (fun i : Fin 512 => s.rxAt (k + j + 2 + i.val)),
        rx := s.rx.drop (k + j + 514 + (if s.cfg.drainCrc then 2 else 0)),
        rxPos := s.rxPos + (k + j + 514 + (if s.cfg.drainCrc then 2 else 0)),
        txRev := extend s (transaction 17#6 a ((rxFrom s 0 (k + j + 2)).map .rx ++
          [.rxn (rxFrom s (k + j + 2) 512)] ++
          (if s.cfg.drainCrc then [.rxn (rxFrom s (k + j + 514) 2)] else []))) }) ∧
    (s.rxAt (k + 1 + j) ≠ 0xFE#8 →
      exec (.rdblk a) s = .next { s with
        cmd := 17#6, arg := a, ret := .idle,
        frameBuf := Spec.frame 17#6 a, acc := frameCheck 17#6 a, crcOut := frameCheck 17#6 a,
        pollCnt := s.cfg.tokenPolls - (j + 1), status := 0x00#8, token := s.rxAt (k + 1 + j), result := .badResponse,
        rx := s.rx.drop (k + j + 2), rxPos := s.rxPos + (k + j + 2),
        txRev := extend s (transaction 17#6 a ((rxFrom s 0 (k + j + 2)).map .rx)) })

/-- RDBLK ends from every admitted state with SUCCESS, TIMEOUT or BAD_RESPONSE, in one transaction, after at most
CTX_TB + TOKEN_POLLS + 512 bytes (2 more with DRAIN_CRC); DATA is unchanged unless it succeeded (44_block_read.md, every
ending). -/
def Obligations.RdblkAlwaysEnds : Prop :=
  ∀ (s : State) (a : BitVec 32), Free s → s.ctxValid = true →
    ∃ (t : State) (middle : List Event), exec (.rdblk a) s = .next t ∧
      (t.result = .success ∨ t.result = .timeout ∨ t.result = .badResponse) ∧
      (t.result ≠ .success → t.data = s.data) ∧
      t.rxPos ≤ s.rxPos + s.ctxTb + s.cfg.tokenPolls + 512 + (if s.cfg.drainCrc then 2 else 0) ∧
      t.tx = s.tx ++ [.acquire] ++ middle ++ [.release] ∧ acquires middle = 0 ∧ releases middle = 0 ∧
      t.resp = s.resp ∧ t.ctxTb = s.ctxTb ∧ t.ctxDiv = s.ctxDiv ∧ t.busHeld = false ∧ t.seq = .idle

/-! ### The handshake -/

/-- INIT completes from every idle state, with or without a context, and ends as the table of 43_handshake.md section 3
says, read off the bytes of RX: class, bytes taken, transactions made, attempts spent, and the frames sent, in order, byte by
byte. The step order, the masks, the arguments and the classes the spec decided (D16 to D21, G2 to G5, G7) are its own choices. -/
def Obligations.InitEndsAsTheTable : Prop :=
  ∀ (s : State) (b o : Div) (n : Nat), Free s →
    ∃ t : State, exec (.init b o n) s = .next t ∧
      t.result = (initEnding s n s.cfg.negAttempts).result ∧
      t.rxPos = s.rxPos + (initEnding s n s.cfg.negAttempts).taken ∧
      t.rx = s.rx.drop (initEnding s n s.cfg.negAttempts).taken ∧
      acquires t.tx = acquires s.tx + (initEnding s n s.cfg.negAttempts).transactions ∧
      releases t.tx = releases s.tx + (initEnding s n s.cfg.negAttempts).transactions ∧
      framesSent t.tx = framesSent s.tx ++ handshakeFrames (initEnding s n s.cfg.negAttempts) ∧
      (∀ m, (initEnding s n s.cfg.negAttempts).attempts = some m → t.attCnt = s.cfg.negAttempts - m) ∧
      t.ctxValid = true ∧ t.ctxTb = n ∧ t.ctxDiv = o ∧ t.busHeld = false ∧ t.seq = .idle

/-- Step 3 spends one unit of ATT_CNT and makes two transactions for each attempt, never makes more attempts than its budget,
and makes all of them when it does not end ready; INIT ends after at most 2 * NEG_ATTEMPTS + 3 transactions (6003 with the
document's 3000) and a bounded number of received bytes (43_handshake.md, step 3 and the summary). -/
def Obligations.InitIsBounded : Prop :=
  (∀ (n : Nat) (s : State), ∃ k : Nat, k ≤ n ∧ (negotiate n s).2.attCnt = s.attCnt - k ∧
    acquires (negotiate n s).2.tx = acquires s.tx + 2 * k ∧ releases (negotiate n s).2.tx = releases s.tx + 2 * k ∧
    (n ≠ 0 → k ≠ 0) ∧ ((negotiate n s).1 = false → k = n)) ∧
  (∀ (s t : State) (b o : Div) (n : Nat), exec (.init b o n) s = .next t →
    acquires t.tx ≤ acquires s.tx + (2 * s.cfg.negAttempts + 3) ∧
    t.rxPos ≤ s.rxPos + (2 * s.cfg.negAttempts + 3) * n + 8)

/-- 43_handshake.md R181: on success the last event is one configuration with the operating divisor held in CTX_DIV, MSB-first in
mode 0, outside any transaction, and no other configuration follows the bootstrap one; after a failed INIT the transport is
left at the bootstrap divisor, its only configuration. -/
def Obligations.InitConfiguresBootstrapThenOperating : Prop :=
  ∀ (s t : State) (b o : Div) (n : Nat), exec (.init b o n) s = .next t →
    ∃ es : List Event, t.tx = s.tx ++ es ∧ acquires es = releases es ∧
      (t.result = .success → configurations es = [.cfg b .msbFirst .mode0, .cfg o .msbFirst .mode0] ∧
        es.getLast? = some (.cfg o .msbFirst .mode0) ∧ t.ctxDiv = o) ∧
      (t.result ≠ .success → configurations es = [.cfg b .msbFirst .mode0])

/-- What INIT leaves unchanged: DATA, TOKEN, OP, the host's requests, the model's parameters (43_handshake.md section 1,
state written). -/
def Obligations.InitFrame : Prop :=
  ∀ (s t : State) (b o : Div) (n : Nat), exec (.init b o n) s = .next t →
    t.data = s.data ∧ t.token = s.token ∧ t.op = s.op ∧ t.host = s.host ∧ t.msgIn = s.msgIn ∧ t.cfg = s.cfg ∧
    t.grain = s.grain

/-- PREAMBLE_CLOCKS: with 0 INIT's second event is the `begin` of step 1, otherwise one `idle` of that many clocks comes
before it (43_handshake.md step 0; decision D26). -/
def Obligations.InitPreamble : Prop :=
  ∀ (s t : State) (b o : Div) (n : Nat), exec (.init b o n) s = .next t →
    (s.cfg.preambleClocks = 0 → ∃ es, t.tx = s.tx ++ [.cfg b .msbFirst .mode0, .acquire] ++ es) ∧
    (s.cfg.preambleClocks ≠ 0 →
      ∃ es, t.tx = s.tx ++ [.cfg b .msbFirst .mode0, .idle s.cfg.preambleClocks, .acquire] ++ es)

/-! ### The rows below the operations -/

/-- Each frame row, where the pulse has been made: the frame is built into FRAME_BUF and sent whole, and the status poll
begins with POLL_CNT at CTX_TB; STATUS changes only at CTX_TB = 0, where it is a draw (42_exchange.md sections 2 and 4;
the arguments of commands 41, 55 and 58 are the spec's general knowledge). Where CMD and ARG hold another frame, that the row sends
its own and leaves them alone is the model's choice (notes/assumptions/22.md). -/
def Obligations.FrameRowsAreSent : Prop :=
  (∀ (i : Instr) (bytes : Vector Byte 6), (i, bytes) ∈
      [(Instr.cmd0, #v[0x40#8, 0x00#8, 0x00#8, 0x00#8, 0x00#8, 0x95#8]),
       (Instr.cmd8, #v[0x48#8, 0x00#8, 0x00#8, 0x01#8, 0xAA#8, 0x87#8]),
       (Instr.cmd55, #v[0x77#8, 0x00#8, 0x00#8, 0x00#8, 0x00#8, 0x65#8]),
       (Instr.acmd41, #v[0x69#8, 0x40#8, 0x00#8, 0x00#8, 0x00#8, 0x77#8]),
       (Instr.cmd58, #v[0x7A#8, 0x00#8, 0x00#8, 0x00#8, 0x00#8, 0xFD#8])] →
    ∀ s : State, s.seq = .xPulse → ∃ (st : Byte) (d : Nat),
      exec i s = .next { s with
        seq := .xSend, frameBuf := bytes, acc := bytes[5] ^^^ 0x01#8, crcOut := bytes[5] ^^^ 0x01#8,
        pollCnt := s.ctxTb, status := st, draw := d, txRev := .send bytes.toList :: s.txRev } ∧
      (s.ctxTb ≠ 0 → st = s.status ∧ d = s.draw)) ∧
  (∀ (s : State) (c : BitVec 6) (a : BitVec 32) (k : BitVec 7), s.seq = .xPulse → k = (frameCheck c a).extractLsb' 1 7 →
    ∃ (st : Byte) (d : Nat),
      (exec (.cmdn c a k) s = .next { s with
        seq := .xSend, frameBuf := Spec.frame c a, acc := frameCheck c a, crcOut := frameCheck c a,
        pollCnt := s.ctxTb, status := st, draw := d, txRev := .send (Spec.frame c a).toList :: s.txRev }) ∧
      (c = 17#6 → exec (.cmd17 a k) s = exec (.cmdn c a k) s) ∧
      (s.ctxTb ≠ 0 → st = s.status ∧ d = s.draw))

/-- CMD17 completes where the pulse has been made: the read frame with the address as its argument, unchanged
(44_block_read.md; 10_state.md, the card address). Where CMD and ARG hold another frame, this is the model's choice
(notes/assumptions/22.md). -/
def Obligations.ReadFrameCarriesTheAddress : Prop :=
  ∀ (s : State) (a : BitVec 32), s.seq = .xPulse → ∃ (st : Byte) (d : Nat),
    exec (.cmd17 a ((frameCheck 17#6 a).extractLsb' 1 7)) s = .next { s with
      seq := .xSend, acc := frameCheck 17#6 a, crcOut := frameCheck 17#6 a,
      frameBuf := #v[0x51#8, a.extractLsb' 24 8, a.extractLsb' 16 8, a.extractLsb' 8 8, a.extractLsb' 0 8,
        frameCheck 17#6 a ||| 0x01#8],
      pollCnt := s.ctxTb, status := st, draw := d, txRev := .send (Spec.frame 17#6 a).toList :: s.txRev } ∧
    (s.ctxTb ≠ 0 → st = s.status ∧ d = s.draw)

/-- The status poll's rows, where an attempt is due: STATUS holds the byte and one unit is spent. After a valid byte of a
block read's exchange the sequencer stands at B_CHECK, with POLL_CNT at TOKEN_POLLS when the status is 0x00; that the budget is
loaded at this point is the model's placing (DEDUCED, notes/assumptions/3.md), and that SEQ stands at B_CHECK is its choice
(notes/assumptions/20.md). -/
def Obligations.StatusPollRows : Prop :=
  ∀ s : State, statusPolling s = true →
    (∀ x : BitVec 7, exec (.stSkip x) s = .next { s with
      status := 1#1 ++ x, pollCnt := s.pollCnt - 1, seq := .xPoll, txRev := .rx (1#1 ++ x) :: s.txRev }) ∧
    (∀ f : BitVec 7, s.ret ≠ .bCheck → exec (.stValid f) s = .next { s with
      status := 0#1 ++ f, pollCnt := s.pollCnt - 1, seq := .xPoll, txRev := .rx (0#1 ++ f) :: s.txRev }) ∧
    (∀ f : BitVec 7, s.ret = .bCheck → exec (.stValid f) s = .next { s with
      status := 0#1 ++ f, pollCnt := (if f = 0#7 then s.cfg.tokenPolls else s.pollCnt - 1), seq := .bCheck,
      txRev := .rx (0#1 ++ f) :: s.txRev })

/-- The token poll's rows, where an attempt is due: TOKEN holds the byte and one unit is spent. That the first attempt is made
from B_CHECK is the model's choice (notes/assumptions/20.md). -/
def Obligations.TokenPollRows : Prop :=
  ∀ s : State, tokenPolling s = true →
    ∀ (i : Instr) (t : Byte), ((i = .tkFill ∧ t = 0xFF#8) ∨ (i = .tkStart ∧ t = 0xFE#8) ∨ i = .tkOther t) →
      exec i s = .next { s with token := t, pollCnt := s.pollCnt - 1, seq := .bToken, txRev := .rx t :: s.txRev }

/-- The response rows of an exchange the host issued: R1 stores one byte and ends the exchange with SUCCESS; R3R7 stores
five bytes and leaves the release to come (42_exchange.md section 4). Where STATUS holds another byte than the row's first, that
the row stores its own is the model's choice (notes/assumptions/22.md). -/
def Obligations.ResponseRows : Prop :=
  (∀ (s : State) (f : BitVec 7), s.seq = .xPoll → s.status.getLsbD 7 = false → s.rlen = 1 → s.busHeld = true →
    s.ret = .idle →
    exec (.r1 f) s = .next { s with
      resp := #v[0#1 ++ f, s.resp[1], s.resp[2], s.resp[3], s.resp[4]],
      busHeld := false, result := .success, seq := .idle, txRev := .release :: s.txRev }) ∧
  (∀ (s : State) (f : BitVec 7) (p1 p2 p3 p4 : Byte), s.seq = .xPoll → s.status.getLsbD 7 = false → s.rlen = 5 →
    exec (.r3r7 f p1 p2 p3 p4) s = .next { s with
      resp := #v[0#1 ++ f, p1, p2, p3, p4], seq := .xPayload, txRev := .rxn [p1, p2, p3, p4] :: s.txRev })

/-- The result rows, where their class is due and the operation is the host's: release if the bus is held, RESULT, IDLE, in
that order, and nothing else but RESP, a draw when an XCMD's own poll timed out (60_exceptions.md section 4). -/
def Obligations.ResultRowsEndTheOperation : Prop :=
  ∀ (s : State) (i : Instr) (r : Result),
    (i, r) ∈ [(Instr.success, Result.success), (Instr.timeout, Result.timeout),
      (Instr.notSupported, Result.notSupported), (Instr.badResponse, Result.badResponse)] →
    dueClass s = some r → (s.busHeld = false ∨ handshakeReturn s.ret = false) →
    ∃ (resp : Vector Byte 5) (d : Nat),
      exec i s = .next { s with
        busHeld := false, result := r, seq := .idle, ret := .idle, resp := resp, draw := d,
        txRev := (if s.busHeld then [.release] else []) ++ s.txRev } ∧
      (¬ (r = .timeout ∧ exchangeOpen s = true) → resp = s.resp ∧ d = s.draw)

/-- An exchange INIT called ends and returns into INIT: through a result row (a timeout, or a five-byte response already taken),
and through the R1 row where the response is one byte. The bus is released, RESULT is the exchange's, SEQ is the step that called
it, and all else is unchanged but RESP, which the R1 row begins with its byte and a timeout leaves a draw, and ATT_CNT, which
step 2 may load and which is left open there (60_exceptions.md sections 4 and 5). That SEQ stands at the calling step, I_S1 to
I_S4, once its exchange has returned is the model's choice (notes/assumptions/20.md), told by its field RET
(notes/assumptions/2.md); that the load of ATT_CNT comes with this event is its placing (notes/assumptions/3.md), and that R1 stores its own byte where
STATUS holds another is its choice (notes/assumptions/22.md). -/
def Obligations.ExchangeReturnsIntoInit : Prop :=
  (∀ (s : State) (r : Result), s.busHeld = true → handshakeReturn s.ret = true → dueClass s = some r →
    r = .success ∨ r = .timeout →
    ∃ (resp : Vector Byte 5) (d att : Nat), exec (if r = .success then Instr.success else Instr.timeout) s = .next { s with
        busHeld := false, result := r, seq := s.ret, resp := resp, draw := d, attCnt := att,
        txRev := .release :: s.txRev } ∧
      (r = .success → resp = s.resp ∧ d = s.draw) ∧ (s.ret ≠ .iS2 → att = s.attCnt)) ∧
  (∀ (s : State) (f : BitVec 7), s.busHeld = true → handshakeReturn s.ret = true → s.seq = .xPoll →
    s.status.getLsbD 7 = false → s.rlen = 1 →
    ∃ att : Nat, exec (.r1 f) s = .next { s with
        busHeld := false, result := .success, seq := s.ret, attCnt := att,
        resp := #v[0#1 ++ f, s.resp[1], s.resp[2], s.resp[3], s.resp[4]], txRev := .release :: s.txRev } ∧
      (s.ret ≠ .iS2 → att = s.attCnt))

/-- CHECKSUM_ERROR is never produced: its row is refused in every state, and no instruction writes it (60_exceptions.md
section 1; decision D38). -/
def Obligations.ChecksumErrorIsNeverProduced : Prop :=
  (∀ s : State, exec .checksumError s = .refused .checksumErrorNeverProduced) ∧
  (∀ (i : Instr) (s t : State), exec i s = .next t → t.result = .checksumError → s.result = .checksumError) ∧
  (∀ s t : State, step s = .next t → t.result = .checksumError → s.result = .checksumError)

/-- OP values 0b110 and 0b111 name no operation and are refused (30_encoding.md section 4; decision D2). -/
def Obligations.ReservedOperationIsRefused : Prop :=
  (∀ (x : BitVec 1) (s : State), exec (.reservedOp x) s = .refused .reservedOperation) ∧
  (∀ o : Operands, decode (.op 0b110#3 o) = .ok (.reservedOp 0#1) ∧ decode (.op 0b111#3 o) = .ok (.reservedOp 1#1))

/-- A frame, response, received byte or result presented where SEQ puts another decoder in force is refused (the model's
choice, notes/assumptions/14.md; 30_encoding.md section 3: "Which decoder applies is decided by `SEQ` alone"): every row below
the operations but CHECKSUM_ERROR, which is refused everywhere. A CMDn or CMD17 word whose checksum is not the frame's is refused
wherever it stands (the model's choice, notes/assumptions/15.md). -/
def Obligations.OutOfSequenceIsRefused : Prop :=
  (∀ (s : State) (i : Instr), s.seq ≠ .xPulse → i ∈ [.cmd0, .cmd8, .cmd55, .acmd41, .cmd58] →
    exec i s = .refused .outOfSequence) ∧
  (∀ (s : State) (c : BitVec 6) (a : BitVec 32) (k : BitVec 7),
    (k ≠ (frameCheck c a).extractLsb' 1 7 → exec (.cmdn c a k) s = .refused .frameChecksumWrong) ∧
    (k ≠ (frameCheck 17#6 a).extractLsb' 1 7 → exec (.cmd17 a k) s = .refused .frameChecksumWrong) ∧
    (s.seq ≠ .xPulse → k = (frameCheck c a).extractLsb' 1 7 → exec (.cmdn c a k) s = .refused .outOfSequence) ∧
    (s.seq ≠ .xPulse → k = (frameCheck 17#6 a).extractLsb' 1 7 → exec (.cmd17 a k) s = .refused .outOfSequence)) ∧
  (∀ (s : State) (f : BitVec 7), responseDue s = false ∨ s.rlen ≠ 1 → exec (.r1 f) s = .refused .outOfSequence) ∧
  (∀ (s : State) (f : BitVec 7) (p1 p2 p3 p4 : Byte), responseDue s = false ∨ s.rlen ≠ 5 →
    exec (.r3r7 f p1 p2 p3 p4) s = .refused .outOfSequence) ∧
  (∀ (s : State) (x : BitVec 7), statusPolling s = false →
    exec (.stSkip x) s = .refused .outOfSequence ∧ exec (.stValid x) s = .refused .outOfSequence) ∧
  (∀ (s : State) (t : Byte), tokenPolling s = false → exec .tkFill s = .refused .outOfSequence ∧
    exec .tkStart s = .refused .outOfSequence ∧ exec (.tkOther t) s = .refused .outOfSequence) ∧
  (∀ (s : State) (i : Instr) (r : Result),
    (i, r) ∈ [(Instr.success, Result.success), (Instr.timeout, Result.timeout),
      (Instr.notSupported, Result.notSupported), (Instr.badResponse, Result.badResponse)] →
    dueClass s ≠ some r → exec i s = .refused .outOfSequence)

/-! ### The whole machine -/

/-- Every step keeps the invariant, at either grain: the discipline of TX, BUS_HELD, RLEN, RESULT, the context. -/
def Obligations.StepKeepsInvariant : Prop :=
  ∀ s t : State, Inv s → step s = .next t → Inv t

/-- The invariant holds after reset. -/
def Obligations.ResetHasInvariant : Prop := Inv State.reset ∧ CountersBounded State.reset ∧ Quiescent State.reset

/-- Every instruction, whatever presents it, keeps the invariant. -/
def Obligations.ExecKeepsInvariant : Prop :=
  ∀ (i : Instr) (s t : State), Inv s → exec i s = .next t → Inv t

/-- 70_reset_and_hazards.md R237: every frame is preceded, inside its transaction, by one idle clock, at every step and for every
instruction. -/
def Obligations.SettlingPulseBeforeEveryFrame : Prop :=
  (∀ s t : State, Inv s → step s = .next t → FramesSettled t.txRev) ∧
  (∀ (i : Instr) (s t : State), Inv s → exec i s = .next t → FramesSettled t.txRev)

/-- 70_reset_and_hazards.md R235: XR1 returns with the bus held; every operation of the host returns with it released on every
path, its `begin` and `end` events alternating, starting with `begin` and equal in number. -/
def Obligations.BusReleasedOnEveryPath : Prop :=
  (∀ (s t : State) (c : BitVec 6) (a : BitVec 32), exec (.xr1 c a) s = .next t → t.busHeld = true) ∧
  (∀ (s t : State) (i : Instr), Free s →
    ((∃ m, i = .crc7 m) ∨ (∃ c a, i = .frame c a) ∨ (∃ c a l, i = .xcmd c a l) ∨ (∃ a, i = .rdblk a) ∨
      (∃ b o n, i = .init b o n)) →
    exec i s = .next t → t.busHeld = false ∧ ∃ (es : List Event) (n : Nat), t.tx = s.tx ++ es ∧
      busEvents es = (List.replicate n [Event.acquire, Event.release]).flatten)

/-- Every step keeps the budgets within what they were loaded with. -/
def Obligations.StepKeepsCountersBounded : Prop :=
  ∀ s t : State, CountersBounded s → step s = .next t → CountersBounded t

/-- 20_memory.md section 6: TX only grows, and the bytes the new events received are the next bytes of RX, none skipped and
none read ahead. -/
def Obligations.ReceivedBytesAreTheNextOfRx : Prop :=
  ∀ s t : State, step s = .next t → ∃ (n : Nat) (es : List Event),
    t.tx = s.tx ++ es ∧ receivedBytes es = s.rxTake n ∧ t.rx = s.rx.drop n ∧ t.rxPos = s.rxPos + n

/-- One step at event grain makes at most one transport event (92_eei_decisions.md D30). -/
def Obligations.EventGrainMakesOneEvent : Prop :=
  ∀ s t : State, s.grain = .event → step s = .next t → t.tx = s.tx ∨ ∃ e, t.tx = s.tx ++ [e]

/-- D30, "Exact either way": at event grain the steps of an operation the host issues bring the block to exactly the state
the whole operation gives, result registers, counters, events and bytes taken alike. -/
def Obligations.EventGrainRunsTheOperation : Prop :=
  ∀ (s t : State) (r : Request) (rest : List Request) (i : Instr),
    Quiescent s → s.grain = .event → s.host = r :: rest → decode (.op r.code r.opr) = .ok i → hostMayIssue i = true →
    exec i { s with host := rest, op := (Op.ofCode? r.code).getD s.op } = .next t →
    ∃ n : Nat, Host.Core.run core n s = .next t

/-- 10_state.md section 5: no instruction but INIT writes CTX_TB, CTX_DIV or CTX_VALID, and nothing clears CTX_VALID. -/
def Obligations.OnlyInitWritesTheContext : Prop :=
  (∀ (i : Instr) (s t : State), (∀ b o n, i ≠ .init b o n) → exec i s = .next t →
    t.ctxTb = s.ctxTb ∧ t.ctxDiv = s.ctxDiv ∧ t.ctxValid = s.ctxValid) ∧
  (∀ s t : State, step s = .next t → s.ctxValid = true → t.ctxValid = true)

/-- 10_state.md section 6: no instruction but a successful RDBLK writes DATA. -/
def Obligations.OnlyASuccessfulReadWritesData : Prop :=
  ∀ (i : Instr) (s t : State), exec i s = .next t → t.data ≠ s.data → (∃ a, i = .rdblk a) ∧ t.result = .success

/-- The model's parameters, its grain and the host's later requests are changed by no instruction; no instruction takes a
byte of RX back. -/
def Obligations.EnvironmentIsNotRewritten : Prop :=
  ∀ (i : Instr) (s t : State), exec i s = .next t →
    t.cfg = s.cfg ∧ t.grain = s.grain ∧ t.host = s.host ∧ s.rxPos ≤ t.rxPos ∧ t.rx = s.rx.drop (t.rxPos - s.rxPos) ∧
    ∃ es, t.tx = s.tx ++ es

/-- 70_reset_and_hazards.md section 1: reset leaves SEQ at IDLE, BUS_HELD and CTX_VALID at 0, and makes no transport event;
in the middle of an operation it is outside the spec. -/
def Obligations.ResetEffect : Prop :=
  (State.reset.seq = .idle ∧ State.reset.busHeld = false ∧ State.reset.ctxValid = false ∧ State.reset.tx = []) ∧
  (∀ s : State, s.seq = .idle → ∃ t, resetEvent s = .next t ∧ t.seq = .idle ∧ t.busHeld = false ∧ t.ctxValid = false ∧
    t.tx = s.tx ∧ t.rx = s.rx ∧ t.rxPos = s.rxPos) ∧
  (∀ s : State, s.seq ≠ .idle → resetEvent s = .refused .resetWhileRunning)

/-- What INIT leaves in STATUS and RESP: what its last exchange left, read off the bytes of RX. After a five-byte response RESP
holds its bytes and STATUS the first of them; otherwise STATUS is the last byte received, where the bound lets one be received
(43_handshake.md section 1; the source gives the host no contract on these after an error, 60_exceptions.md section 1). -/
def Obligations.InitLeavesTheLastExchange : Prop :=
  ∀ (s t : State) (b o : Div) (n : Nat), exec (.init b o n) s = .next t →
    (endsOnFiveBytes (initEnding s n s.cfg.negAttempts) = true →
      t.status = s.rxAt ((initEnding s n s.cfg.negAttempts).taken - 5) ∧
      t.resp = Vector.ofFn (fun i : Fin 5 => s.rxAt ((initEnding s n s.cfg.negAttempts).taken - 5 + i.val))) ∧
    (endsOnFiveBytes (initEnding s n s.cfg.negAttempts) = false → n ≠ 0 →
      t.status = s.rxAt ((initEnding s n s.cfg.negAttempts).taken - 1))
end

