-- ==== Sys2Proof/Laws/Crc.lean ====
section
/-! SUPPORT. The small laws of the generator (40_crc7.md R121 to R123, R127). -/

namespace Sys2Proof.Machine

/-- The polynomial enters by the high bit, and a choice by an exclusive-or is the exclusive-or of the choices. -/
theorem tap_xor (x y : Bool) (t : Byte) :
    (if (x ^^ y) = true then t else 0#8) = (if x = true then t else 0#8) ^^^ (if y = true then t else 0#8) := by
  cases x <;> cases y <;> simp

/-- One bit step is linear over exclusive-or (R127 item 2). -/
theorem crcStep_xor (a b : Byte) : crcStep (a ^^^ b) = crcStep a ^^^ crcStep b := by
  have h : ∀ x : Byte, crcStep x = (x <<< 1) ^^^ (if x.getLsbD 7 = true then crcTap else 0#8) := by
    intro x; unfold crcStep; split <;> simp
  rw [h, h a, h b, BitVec.getLsbD_xor, BitVec.shiftLeft_xor_distrib, tap_xor]
  ac_rfl

@[simp] theorem crcStep_zero : crcStep 0#8 = 0#8 := by decide

theorem crcSteps_xor (n : Nat) (a b : Byte) : crcSteps n (a ^^^ b) = crcSteps n a ^^^ crcSteps n b := by
  induction n generalizing a b with
  | zero => rfl
  | succ n ih => simp only [crcSteps, crcStep_xor, ih]

/-- A bit step leaves bit 0 clear (R127 item 1). -/
theorem crcStep_bit0 (a : Byte) : (crcStep a).getLsbD 0 = false := by
  unfold crcStep crcTap poly
  split <;> simp

theorem crcSteps_bit0 (n : Nat) (a : Byte) : (crcSteps (n + 1) a).getLsbD 0 = false := by
  induction n generalizing a with
  | zero => exact crcStep_bit0 a
  | succ n ih => exact ih (crcStep a)

/-- A byte step leaves bit 0 clear (R127 item 1). -/
theorem crcByte_bit0 (acc b : Byte) : (crcByte acc b).getLsbD 0 = false := crcSteps_bit0 7 _

/-- A byte step depends on the exclusive-or of its operands alone (R123). -/
theorem crcByte_eq_zero_xor (acc b : Byte) : crcByte acc b = crcByte 0#8 (acc ^^^ b) := by
  simp [crcByte]

/-- A byte equal to the accumulator clears it. -/
@[simp] theorem crcByte_self (acc : Byte) : crcByte acc acc = 0#8 := by
  unfold crcByte; rw [BitVec.xor_self]; decide

end Sys2Proof.Machine
end

