-- ==== Sys2Proof/Laws/Encoding.lean ====
section
/-! SUPPORT. The fields of a frame and of a response come back out of their words (30_encoding.md R80 to R82). -/

namespace Sys2Proof.Machine

theorem frameBits_leading (c : BitVec 6) (a : BitVec 32) (k : BitVec 7) : (frameBits c a k).extractLsb' 46 2 = 1#2 := by
  apply BitVec.eq_of_getLsbD_eq
  intro i hi
  have h : i = 0 ∨ i = 1 := by omega
  rcases h with rfl | rfl <;> simp only [frameBits, BitVec.getLsbD_extractLsb', BitVec.getLsbD_append] <;> rfl

theorem frameBits_stop (c : BitVec 6) (a : BitVec 32) (k : BitVec 7) : (frameBits c a k).extractLsb' 0 1 = 1#1 := by
  apply BitVec.eq_of_getLsbD_eq
  intro i hi
  have h : i = 0 := by omega
  subst h
  simp only [frameBits, BitVec.getLsbD_extractLsb', BitVec.getLsbD_append]
  rfl

theorem frameBits_command (c : BitVec 6) (a : BitVec 32) (k : BitVec 7) : (frameBits c a k).extractLsb' 40 6 = c := by
  apply BitVec.eq_of_getLsbD_eq
  intro i hi
  simp only [frameBits, BitVec.getLsbD_extractLsb', BitVec.getLsbD_append, hi, decide_true, Bool.true_and]
  rw [if_neg (by omega), if_neg (by omega), if_neg (by omega), if_pos (by omega)]
  congr 1; omega

theorem frameBits_argument (c : BitVec 6) (a : BitVec 32) (k : BitVec 7) : (frameBits c a k).extractLsb' 8 32 = a := by
  apply BitVec.eq_of_getLsbD_eq
  intro i hi
  simp only [frameBits, BitVec.getLsbD_extractLsb', BitVec.getLsbD_append, hi, decide_true, Bool.true_and]
  rw [if_neg (by omega), if_neg (by omega), if_pos (by omega)]
  congr 1; omega

theorem frameBits_checksum (c : BitVec 6) (a : BitVec 32) (k : BitVec 7) : (frameBits c a k).extractLsb' 1 7 = k := by
  apply BitVec.eq_of_getLsbD_eq
  intro i hi
  simp only [frameBits, BitVec.getLsbD_extractLsb', BitVec.getLsbD_append, hi, decide_true, Bool.true_and]
  rw [if_neg (by omega), if_pos (by omega)]
  congr 1; omega

/-- A frame that is none of the fixed ones decodes by its command index, CMD17 before CMDn. -/
theorem decodeFrame_frameBits (c : BitVec 6) (a : BitVec 32) (k : BitVec 7) (h : frameBits c a k ∉ fixedFrames) :
    decodeFrame (frameBits c a k) = .ok (if c = readCmd then .cmd17 a k else .cmdn c a k) := by
  simp only [fixedFrames, List.mem_cons, List.not_mem_nil, or_false, not_or] at h
  obtain ⟨h0, h8, h55, h41, h58⟩ := h
  simp only [decodeFrame, frameBits_leading, frameBits_stop, frameBits_command, frameBits_argument, frameBits_checksum,
    h0, h8, h55, h41, h58, ne_eq, not_true_eq_false, if_false]
  split <;> rfl

/-- No fixed frame is a read frame. -/
theorem frameBits_read_not_fixed (a : BitVec 32) (k : BitVec 7) : frameBits readCmd a k ∉ fixedFrames := by
  intro h
  have hc := frameBits_command readCmd a k
  simp only [fixedFrames, List.mem_cons, List.not_mem_nil, or_false] at h
  rcases h with h | h | h | h | h <;> rw [h] at hc <;> revert hc <;> decide

/-- The flags of a byte with bit 7 given come back out of it. -/
theorem append_flags (x : BitVec 1) (f : BitVec 7) : (x ++ f : Byte).extractLsb' 0 7 = f := by
  apply BitVec.eq_of_getLsbD_eq
  intro i hi
  simp only [BitVec.getLsbD_extractLsb', BitVec.getLsbD_append, hi, decide_true, Bool.true_and, Nat.zero_add, if_true]

theorem append_top (x : BitVec 1) (f : BitVec 7) : (x ++ f : Byte).getLsbD 7 = x.getLsbD 0 := by
  simp only [BitVec.getLsbD_append]
  rfl

/-- The bytes of a five-byte response come back out of its word. -/
theorem decodeR3R7_append (f : BitVec 7) (p1 p2 p3 p4 : Byte) :
    decodeR3R7 ((((((0#1 ++ f) ++ p1) ++ p2) ++ p3) ++ p4)) = .ok (.r3r7 f p1 p2 p3 p4) := by
  have top : ((((((0#1 ++ f) ++ p1) ++ p2) ++ p3) ++ p4) : BitVec 40).getLsbD 39 = false := by
    simp only [BitVec.getLsbD_append]
    rfl
  unfold decodeR3R7
  rw [if_neg (by rw [top]; decide)]
  congr 2 <;>
    (apply BitVec.eq_of_getLsbD_eq
     intro i hi
     simp only [BitVec.getLsbD_extractLsb', BitVec.getLsbD_append, hi, decide_true, Bool.true_and, Nat.zero_add]
     split_ifs <;> first | omega | (congr 1; omega) | rfl)

end Sys2Proof.Machine
end

