-- ==== Sys2Proof/Laws/State.lean ====
section
/-! SUPPORT. One lemma per field of State per base update, so that no later proof unfolds a record update. -/

namespace Sys2Proof.Machine

@[simp] theorem emit_ctxValid (e : Event) (s : State) : (emit e s).ctxValid = s.ctxValid := rfl
@[simp] theorem emit_ctxDiv (e : Event) (s : State) : (emit e s).ctxDiv = s.ctxDiv := rfl
@[simp] theorem emit_ctxTb (e : Event) (s : State) : (emit e s).ctxTb = s.ctxTb := rfl
@[simp] theorem emit_seq (e : Event) (s : State) : (emit e s).seq = s.seq := rfl
@[simp] theorem emit_busHeld (e : Event) (s : State) : (emit e s).busHeld = s.busHeld := rfl
@[simp] theorem emit_op (e : Event) (s : State) : (emit e s).op = s.op := rfl
@[simp] theorem emit_cmd (e : Event) (s : State) : (emit e s).cmd = s.cmd := rfl
@[simp] theorem emit_arg (e : Event) (s : State) : (emit e s).arg = s.arg := rfl
@[simp] theorem emit_rlen (e : Event) (s : State) : (emit e s).rlen = s.rlen := rfl
@[simp] theorem emit_frameBuf (e : Event) (s : State) : (emit e s).frameBuf = s.frameBuf := rfl
@[simp] theorem emit_acc (e : Event) (s : State) : (emit e s).acc = s.acc := rfl
@[simp] theorem emit_crcOut (e : Event) (s : State) : (emit e s).crcOut = s.crcOut := rfl
@[simp] theorem emit_pollCnt (e : Event) (s : State) : (emit e s).pollCnt = s.pollCnt := rfl
@[simp] theorem emit_attCnt (e : Event) (s : State) : (emit e s).attCnt = s.attCnt := rfl
@[simp] theorem emit_status (e : Event) (s : State) : (emit e s).status = s.status := rfl
@[simp] theorem emit_token (e : Event) (s : State) : (emit e s).token = s.token := rfl
@[simp] theorem emit_resp (e : Event) (s : State) : (emit e s).resp = s.resp := rfl
@[simp] theorem emit_data (e : Event) (s : State) : (emit e s).data = s.data := rfl
@[simp] theorem emit_result (e : Event) (s : State) : (emit e s).result = s.result := rfl
@[simp] theorem emit_rx (e : Event) (s : State) : (emit e s).rx = s.rx := rfl
@[simp] theorem emit_rxPos (e : Event) (s : State) : (emit e s).rxPos = s.rxPos := rfl
@[simp] theorem emit_txRev (e : Event) (s : State) : (emit e s).txRev = e :: s.txRev := rfl
@[simp] theorem emit_host (e : Event) (s : State) : (emit e s).host = s.host := rfl
@[simp] theorem emit_msgIn (e : Event) (s : State) : (emit e s).msgIn = s.msgIn := rfl
@[simp] theorem emit_cfg (e : Event) (s : State) : (emit e s).cfg = s.cfg := rfl
@[simp] theorem emit_ret (e : Event) (s : State) : (emit e s).ret = s.ret := rfl
@[simp] theorem emit_grain (e : Event) (s : State) : (emit e s).grain = s.grain := rfl
@[simp] theorem emit_draw (e : Event) (s : State) : (emit e s).draw = s.draw := rfl

@[simp] theorem rxDrop_ctxValid (n : Nat) (s : State) : (s.rxDrop n).ctxValid = s.ctxValid := rfl
@[simp] theorem rxDrop_ctxDiv (n : Nat) (s : State) : (s.rxDrop n).ctxDiv = s.ctxDiv := rfl
@[simp] theorem rxDrop_ctxTb (n : Nat) (s : State) : (s.rxDrop n).ctxTb = s.ctxTb := rfl
@[simp] theorem rxDrop_seq (n : Nat) (s : State) : (s.rxDrop n).seq = s.seq := rfl
@[simp] theorem rxDrop_busHeld (n : Nat) (s : State) : (s.rxDrop n).busHeld = s.busHeld := rfl
@[simp] theorem rxDrop_op (n : Nat) (s : State) : (s.rxDrop n).op = s.op := rfl
@[simp] theorem rxDrop_cmd (n : Nat) (s : State) : (s.rxDrop n).cmd = s.cmd := rfl
@[simp] theorem rxDrop_arg (n : Nat) (s : State) : (s.rxDrop n).arg = s.arg := rfl
@[simp] theorem rxDrop_rlen (n : Nat) (s : State) : (s.rxDrop n).rlen = s.rlen := rfl
@[simp] theorem rxDrop_frameBuf (n : Nat) (s : State) : (s.rxDrop n).frameBuf = s.frameBuf := rfl
@[simp] theorem rxDrop_acc (n : Nat) (s : State) : (s.rxDrop n).acc = s.acc := rfl
@[simp] theorem rxDrop_crcOut (n : Nat) (s : State) : (s.rxDrop n).crcOut = s.crcOut := rfl
@[simp] theorem rxDrop_pollCnt (n : Nat) (s : State) : (s.rxDrop n).pollCnt = s.pollCnt := rfl
@[simp] theorem rxDrop_attCnt (n : Nat) (s : State) : (s.rxDrop n).attCnt = s.attCnt := rfl
@[simp] theorem rxDrop_status (n : Nat) (s : State) : (s.rxDrop n).status = s.status := rfl
@[simp] theorem rxDrop_token (n : Nat) (s : State) : (s.rxDrop n).token = s.token := rfl
@[simp] theorem rxDrop_resp (n : Nat) (s : State) : (s.rxDrop n).resp = s.resp := rfl
@[simp] theorem rxDrop_data (n : Nat) (s : State) : (s.rxDrop n).data = s.data := rfl
@[simp] theorem rxDrop_result (n : Nat) (s : State) : (s.rxDrop n).result = s.result := rfl
@[simp] theorem rxDrop_rx (n : Nat) (s : State) : (s.rxDrop n).rx = s.rx.drop n := rfl
@[simp] theorem rxDrop_rxPos (n : Nat) (s : State) : (s.rxDrop n).rxPos = s.rxPos + n := rfl
@[simp] theorem rxDrop_txRev (n : Nat) (s : State) : (s.rxDrop n).txRev = s.txRev := rfl
@[simp] theorem rxDrop_host (n : Nat) (s : State) : (s.rxDrop n).host = s.host := rfl
@[simp] theorem rxDrop_msgIn (n : Nat) (s : State) : (s.rxDrop n).msgIn = s.msgIn := rfl
@[simp] theorem rxDrop_cfg (n : Nat) (s : State) : (s.rxDrop n).cfg = s.cfg := rfl
@[simp] theorem rxDrop_ret (n : Nat) (s : State) : (s.rxDrop n).ret = s.ret := rfl
@[simp] theorem rxDrop_grain (n : Nat) (s : State) : (s.rxDrop n).grain = s.grain := rfl
@[simp] theorem rxDrop_draw (n : Nat) (s : State) : (s.rxDrop n).draw = s.draw := rfl

@[simp] theorem acquireBus_ctxValid (s : State) : (acquireBus s).ctxValid = s.ctxValid := rfl
@[simp] theorem acquireBus_ctxDiv (s : State) : (acquireBus s).ctxDiv = s.ctxDiv := rfl
@[simp] theorem acquireBus_ctxTb (s : State) : (acquireBus s).ctxTb = s.ctxTb := rfl
@[simp] theorem acquireBus_seq (s : State) : (acquireBus s).seq = .xAcq := rfl
@[simp] theorem acquireBus_busHeld (s : State) : (acquireBus s).busHeld = true := rfl
@[simp] theorem acquireBus_op (s : State) : (acquireBus s).op = s.op := rfl
@[simp] theorem acquireBus_cmd (s : State) : (acquireBus s).cmd = s.cmd := rfl
@[simp] theorem acquireBus_arg (s : State) : (acquireBus s).arg = s.arg := rfl
@[simp] theorem acquireBus_rlen (s : State) : (acquireBus s).rlen = s.rlen := rfl
@[simp] theorem acquireBus_frameBuf (s : State) : (acquireBus s).frameBuf = s.frameBuf := rfl
@[simp] theorem acquireBus_acc (s : State) : (acquireBus s).acc = s.acc := rfl
@[simp] theorem acquireBus_crcOut (s : State) : (acquireBus s).crcOut = s.crcOut := rfl
@[simp] theorem acquireBus_pollCnt (s : State) : (acquireBus s).pollCnt = s.pollCnt := rfl
@[simp] theorem acquireBus_attCnt (s : State) : (acquireBus s).attCnt = s.attCnt := rfl
@[simp] theorem acquireBus_status (s : State) : (acquireBus s).status = s.status := rfl
@[simp] theorem acquireBus_token (s : State) : (acquireBus s).token = s.token := rfl
@[simp] theorem acquireBus_resp (s : State) : (acquireBus s).resp = s.resp := rfl
@[simp] theorem acquireBus_data (s : State) : (acquireBus s).data = s.data := rfl
@[simp] theorem acquireBus_result (s : State) : (acquireBus s).result = s.result := rfl
@[simp] theorem acquireBus_rx (s : State) : (acquireBus s).rx = s.rx := rfl
@[simp] theorem acquireBus_rxPos (s : State) : (acquireBus s).rxPos = s.rxPos := rfl
@[simp] theorem acquireBus_txRev (s : State) : (acquireBus s).txRev = .acquire :: s.txRev := rfl
@[simp] theorem acquireBus_host (s : State) : (acquireBus s).host = s.host := rfl
@[simp] theorem acquireBus_msgIn (s : State) : (acquireBus s).msgIn = s.msgIn := rfl
@[simp] theorem acquireBus_cfg (s : State) : (acquireBus s).cfg = s.cfg := rfl
@[simp] theorem acquireBus_ret (s : State) : (acquireBus s).ret = s.ret := rfl
@[simp] theorem acquireBus_grain (s : State) : (acquireBus s).grain = s.grain := rfl
@[simp] theorem acquireBus_draw (s : State) : (acquireBus s).draw = s.draw := rfl

@[simp] theorem releaseBus_ctxValid (s : State) : (releaseBus s).ctxValid = s.ctxValid := rfl
@[simp] theorem releaseBus_ctxDiv (s : State) : (releaseBus s).ctxDiv = s.ctxDiv := rfl
@[simp] theorem releaseBus_ctxTb (s : State) : (releaseBus s).ctxTb = s.ctxTb := rfl
@[simp] theorem releaseBus_seq (s : State) : (releaseBus s).seq = s.seq := rfl
@[simp] theorem releaseBus_busHeld (s : State) : (releaseBus s).busHeld = false := rfl
@[simp] theorem releaseBus_op (s : State) : (releaseBus s).op = s.op := rfl
@[simp] theorem releaseBus_cmd (s : State) : (releaseBus s).cmd = s.cmd := rfl
@[simp] theorem releaseBus_arg (s : State) : (releaseBus s).arg = s.arg := rfl
@[simp] theorem releaseBus_rlen (s : State) : (releaseBus s).rlen = s.rlen := rfl
@[simp] theorem releaseBus_frameBuf (s : State) : (releaseBus s).frameBuf = s.frameBuf := rfl
@[simp] theorem releaseBus_acc (s : State) : (releaseBus s).acc = s.acc := rfl
@[simp] theorem releaseBus_crcOut (s : State) : (releaseBus s).crcOut = s.crcOut := rfl
@[simp] theorem releaseBus_pollCnt (s : State) : (releaseBus s).pollCnt = s.pollCnt := rfl
@[simp] theorem releaseBus_attCnt (s : State) : (releaseBus s).attCnt = s.attCnt := rfl
@[simp] theorem releaseBus_status (s : State) : (releaseBus s).status = s.status := rfl
@[simp] theorem releaseBus_token (s : State) : (releaseBus s).token = s.token := rfl
@[simp] theorem releaseBus_resp (s : State) : (releaseBus s).resp = s.resp := rfl
@[simp] theorem releaseBus_data (s : State) : (releaseBus s).data = s.data := rfl
@[simp] theorem releaseBus_result (s : State) : (releaseBus s).result = s.result := rfl
@[simp] theorem releaseBus_rx (s : State) : (releaseBus s).rx = s.rx := rfl
@[simp] theorem releaseBus_rxPos (s : State) : (releaseBus s).rxPos = s.rxPos := rfl
@[simp] theorem releaseBus_txRev (s : State) : (releaseBus s).txRev = .release :: s.txRev := rfl
@[simp] theorem releaseBus_host (s : State) : (releaseBus s).host = s.host := rfl
@[simp] theorem releaseBus_msgIn (s : State) : (releaseBus s).msgIn = s.msgIn := rfl
@[simp] theorem releaseBus_cfg (s : State) : (releaseBus s).cfg = s.cfg := rfl
@[simp] theorem releaseBus_ret (s : State) : (releaseBus s).ret = s.ret := rfl
@[simp] theorem releaseBus_grain (s : State) : (releaseBus s).grain = s.grain := rfl
@[simp] theorem releaseBus_draw (s : State) : (releaseBus s).draw = s.draw := rfl

@[simp] theorem pulse_ctxValid (s : State) : (pulse s).ctxValid = s.ctxValid := rfl
@[simp] theorem pulse_ctxDiv (s : State) : (pulse s).ctxDiv = s.ctxDiv := rfl
@[simp] theorem pulse_ctxTb (s : State) : (pulse s).ctxTb = s.ctxTb := rfl
@[simp] theorem pulse_seq (s : State) : (pulse s).seq = .xPulse := rfl
@[simp] theorem pulse_busHeld (s : State) : (pulse s).busHeld = s.busHeld := rfl
@[simp] theorem pulse_op (s : State) : (pulse s).op = s.op := rfl
@[simp] theorem pulse_cmd (s : State) : (pulse s).cmd = s.cmd := rfl
@[simp] theorem pulse_arg (s : State) : (pulse s).arg = s.arg := rfl
@[simp] theorem pulse_rlen (s : State) : (pulse s).rlen = s.rlen := rfl
@[simp] theorem pulse_frameBuf (s : State) : (pulse s).frameBuf = s.frameBuf := rfl
@[simp] theorem pulse_acc (s : State) : (pulse s).acc = s.acc := rfl
@[simp] theorem pulse_crcOut (s : State) : (pulse s).crcOut = s.crcOut := rfl
@[simp] theorem pulse_pollCnt (s : State) : (pulse s).pollCnt = s.pollCnt := rfl
@[simp] theorem pulse_attCnt (s : State) : (pulse s).attCnt = s.attCnt := rfl
@[simp] theorem pulse_status (s : State) : (pulse s).status = s.status := rfl
@[simp] theorem pulse_token (s : State) : (pulse s).token = s.token := rfl
@[simp] theorem pulse_resp (s : State) : (pulse s).resp = s.resp := rfl
@[simp] theorem pulse_data (s : State) : (pulse s).data = s.data := rfl
@[simp] theorem pulse_result (s : State) : (pulse s).result = s.result := rfl
@[simp] theorem pulse_rx (s : State) : (pulse s).rx = s.rx := rfl
@[simp] theorem pulse_rxPos (s : State) : (pulse s).rxPos = s.rxPos := rfl
@[simp] theorem pulse_txRev (s : State) : (pulse s).txRev = .idle 1 :: s.txRev := rfl
@[simp] theorem pulse_host (s : State) : (pulse s).host = s.host := rfl
@[simp] theorem pulse_msgIn (s : State) : (pulse s).msgIn = s.msgIn := rfl
@[simp] theorem pulse_cfg (s : State) : (pulse s).cfg = s.cfg := rfl
@[simp] theorem pulse_ret (s : State) : (pulse s).ret = s.ret := rfl
@[simp] theorem pulse_grain (s : State) : (pulse s).grain = s.grain := rfl
@[simp] theorem pulse_draw (s : State) : (pulse s).draw = s.draw := rfl

@[simp] theorem statusByte_ctxValid (b : Byte) (s : State) : (statusByte b s).ctxValid = s.ctxValid := rfl
@[simp] theorem statusByte_ctxDiv (b : Byte) (s : State) : (statusByte b s).ctxDiv = s.ctxDiv := rfl
@[simp] theorem statusByte_ctxTb (b : Byte) (s : State) : (statusByte b s).ctxTb = s.ctxTb := rfl
@[simp] theorem statusByte_seq (b : Byte) (s : State) : (statusByte b s).seq = .xPoll := rfl
@[simp] theorem statusByte_busHeld (b : Byte) (s : State) : (statusByte b s).busHeld = s.busHeld := rfl
@[simp] theorem statusByte_op (b : Byte) (s : State) : (statusByte b s).op = s.op := rfl
@[simp] theorem statusByte_cmd (b : Byte) (s : State) : (statusByte b s).cmd = s.cmd := rfl
@[simp] theorem statusByte_arg (b : Byte) (s : State) : (statusByte b s).arg = s.arg := rfl
@[simp] theorem statusByte_rlen (b : Byte) (s : State) : (statusByte b s).rlen = s.rlen := rfl
@[simp] theorem statusByte_frameBuf (b : Byte) (s : State) : (statusByte b s).frameBuf = s.frameBuf := rfl
@[simp] theorem statusByte_acc (b : Byte) (s : State) : (statusByte b s).acc = s.acc := rfl
@[simp] theorem statusByte_crcOut (b : Byte) (s : State) : (statusByte b s).crcOut = s.crcOut := rfl
@[simp] theorem statusByte_pollCnt (b : Byte) (s : State) : (statusByte b s).pollCnt = s.pollCnt - 1 := rfl
@[simp] theorem statusByte_attCnt (b : Byte) (s : State) : (statusByte b s).attCnt = s.attCnt := rfl
@[simp] theorem statusByte_status (b : Byte) (s : State) : (statusByte b s).status = b := rfl
@[simp] theorem statusByte_token (b : Byte) (s : State) : (statusByte b s).token = s.token := rfl
@[simp] theorem statusByte_resp (b : Byte) (s : State) : (statusByte b s).resp = s.resp := rfl
@[simp] theorem statusByte_data (b : Byte) (s : State) : (statusByte b s).data = s.data := rfl
@[simp] theorem statusByte_result (b : Byte) (s : State) : (statusByte b s).result = s.result := rfl
@[simp] theorem statusByte_rx (b : Byte) (s : State) : (statusByte b s).rx = s.rx := rfl
@[simp] theorem statusByte_rxPos (b : Byte) (s : State) : (statusByte b s).rxPos = s.rxPos := rfl
@[simp] theorem statusByte_txRev (b : Byte) (s : State) : (statusByte b s).txRev = .rx b :: s.txRev := rfl
@[simp] theorem statusByte_host (b : Byte) (s : State) : (statusByte b s).host = s.host := rfl
@[simp] theorem statusByte_msgIn (b : Byte) (s : State) : (statusByte b s).msgIn = s.msgIn := rfl
@[simp] theorem statusByte_cfg (b : Byte) (s : State) : (statusByte b s).cfg = s.cfg := rfl
@[simp] theorem statusByte_ret (b : Byte) (s : State) : (statusByte b s).ret = s.ret := rfl
@[simp] theorem statusByte_grain (b : Byte) (s : State) : (statusByte b s).grain = s.grain := rfl
@[simp] theorem statusByte_draw (b : Byte) (s : State) : (statusByte b s).draw = s.draw := rfl

@[simp] theorem tokenByte_ctxValid (b : Byte) (s : State) : (tokenByte b s).ctxValid = s.ctxValid := rfl
@[simp] theorem tokenByte_ctxDiv (b : Byte) (s : State) : (tokenByte b s).ctxDiv = s.ctxDiv := rfl
@[simp] theorem tokenByte_ctxTb (b : Byte) (s : State) : (tokenByte b s).ctxTb = s.ctxTb := rfl
@[simp] theorem tokenByte_seq (b : Byte) (s : State) : (tokenByte b s).seq = .bToken := rfl
@[simp] theorem tokenByte_busHeld (b : Byte) (s : State) : (tokenByte b s).busHeld = s.busHeld := rfl
@[simp] theorem tokenByte_op (b : Byte) (s : State) : (tokenByte b s).op = s.op := rfl
@[simp] theorem tokenByte_cmd (b : Byte) (s : State) : (tokenByte b s).cmd = s.cmd := rfl
@[simp] theorem tokenByte_arg (b : Byte) (s : State) : (tokenByte b s).arg = s.arg := rfl
@[simp] theorem tokenByte_rlen (b : Byte) (s : State) : (tokenByte b s).rlen = s.rlen := rfl
@[simp] theorem tokenByte_frameBuf (b : Byte) (s : State) : (tokenByte b s).frameBuf = s.frameBuf := rfl
@[simp] theorem tokenByte_acc (b : Byte) (s : State) : (tokenByte b s).acc = s.acc := rfl
@[simp] theorem tokenByte_crcOut (b : Byte) (s : State) : (tokenByte b s).crcOut = s.crcOut := rfl
@[simp] theorem tokenByte_pollCnt (b : Byte) (s : State) : (tokenByte b s).pollCnt = s.pollCnt - 1 := rfl
@[simp] theorem tokenByte_attCnt (b : Byte) (s : State) : (tokenByte b s).attCnt = s.attCnt := rfl
@[simp] theorem tokenByte_status (b : Byte) (s : State) : (tokenByte b s).status = s.status := rfl
@[simp] theorem tokenByte_token (b : Byte) (s : State) : (tokenByte b s).token = b := rfl
@[simp] theorem tokenByte_resp (b : Byte) (s : State) : (tokenByte b s).resp = s.resp := rfl
@[simp] theorem tokenByte_data (b : Byte) (s : State) : (tokenByte b s).data = s.data := rfl
@[simp] theorem tokenByte_result (b : Byte) (s : State) : (tokenByte b s).result = s.result := rfl
@[simp] theorem tokenByte_rx (b : Byte) (s : State) : (tokenByte b s).rx = s.rx := rfl
@[simp] theorem tokenByte_rxPos (b : Byte) (s : State) : (tokenByte b s).rxPos = s.rxPos := rfl
@[simp] theorem tokenByte_txRev (b : Byte) (s : State) : (tokenByte b s).txRev = .rx b :: s.txRev := rfl
@[simp] theorem tokenByte_host (b : Byte) (s : State) : (tokenByte b s).host = s.host := rfl
@[simp] theorem tokenByte_msgIn (b : Byte) (s : State) : (tokenByte b s).msgIn = s.msgIn := rfl
@[simp] theorem tokenByte_cfg (b : Byte) (s : State) : (tokenByte b s).cfg = s.cfg := rfl
@[simp] theorem tokenByte_ret (b : Byte) (s : State) : (tokenByte b s).ret = s.ret := rfl
@[simp] theorem tokenByte_grain (b : Byte) (s : State) : (tokenByte b s).grain = s.grain := rfl
@[simp] theorem tokenByte_draw (b : Byte) (s : State) : (tokenByte b s).draw = s.draw := rfl

@[simp] theorem buildFrame_ctxValid (c : BitVec 6) (a : BitVec 32) (s : State) : (buildFrame c a s).ctxValid = s.ctxValid := rfl
@[simp] theorem buildFrame_ctxDiv (c : BitVec 6) (a : BitVec 32) (s : State) : (buildFrame c a s).ctxDiv = s.ctxDiv := rfl
@[simp] theorem buildFrame_ctxTb (c : BitVec 6) (a : BitVec 32) (s : State) : (buildFrame c a s).ctxTb = s.ctxTb := rfl
@[simp] theorem buildFrame_seq (c : BitVec 6) (a : BitVec 32) (s : State) : (buildFrame c a s).seq = s.seq := rfl
@[simp] theorem buildFrame_busHeld (c : BitVec 6) (a : BitVec 32) (s : State) : (buildFrame c a s).busHeld = s.busHeld := rfl
@[simp] theorem buildFrame_op (c : BitVec 6) (a : BitVec 32) (s : State) : (buildFrame c a s).op = s.op := rfl
@[simp] theorem buildFrame_cmd (c : BitVec 6) (a : BitVec 32) (s : State) : (buildFrame c a s).cmd = s.cmd := rfl
@[simp] theorem buildFrame_arg (c : BitVec 6) (a : BitVec 32) (s : State) : (buildFrame c a s).arg = s.arg := rfl
@[simp] theorem buildFrame_rlen (c : BitVec 6) (a : BitVec 32) (s : State) : (buildFrame c a s).rlen = s.rlen := rfl
@[simp] theorem buildFrame_frameBuf (c : BitVec 6) (a : BitVec 32) (s : State) : (buildFrame c a s).frameBuf = frameBytes c a := rfl
@[simp] theorem buildFrame_acc (c : BitVec 6) (a : BitVec 32) (s : State) : (buildFrame c a s).acc = frameSum c a := rfl
@[simp] theorem buildFrame_crcOut (c : BitVec 6) (a : BitVec 32) (s : State) : (buildFrame c a s).crcOut = frameSum c a := rfl
@[simp] theorem buildFrame_pollCnt (c : BitVec 6) (a : BitVec 32) (s : State) : (buildFrame c a s).pollCnt = s.pollCnt := rfl
@[simp] theorem buildFrame_attCnt (c : BitVec 6) (a : BitVec 32) (s : State) : (buildFrame c a s).attCnt = s.attCnt := rfl
@[simp] theorem buildFrame_status (c : BitVec 6) (a : BitVec 32) (s : State) : (buildFrame c a s).status = s.status := rfl
@[simp] theorem buildFrame_token (c : BitVec 6) (a : BitVec 32) (s : State) : (buildFrame c a s).token = s.token := rfl
@[simp] theorem buildFrame_resp (c : BitVec 6) (a : BitVec 32) (s : State) : (buildFrame c a s).resp = s.resp := rfl
@[simp] theorem buildFrame_data (c : BitVec 6) (a : BitVec 32) (s : State) : (buildFrame c a s).data = s.data := rfl
@[simp] theorem buildFrame_result (c : BitVec 6) (a : BitVec 32) (s : State) : (buildFrame c a s).result = s.result := rfl
@[simp] theorem buildFrame_rx (c : BitVec 6) (a : BitVec 32) (s : State) : (buildFrame c a s).rx = s.rx := rfl
@[simp] theorem buildFrame_rxPos (c : BitVec 6) (a : BitVec 32) (s : State) : (buildFrame c a s).rxPos = s.rxPos := rfl
@[simp] theorem buildFrame_txRev (c : BitVec 6) (a : BitVec 32) (s : State) : (buildFrame c a s).txRev = s.txRev := rfl
@[simp] theorem buildFrame_host (c : BitVec 6) (a : BitVec 32) (s : State) : (buildFrame c a s).host = s.host := rfl
@[simp] theorem buildFrame_msgIn (c : BitVec 6) (a : BitVec 32) (s : State) : (buildFrame c a s).msgIn = s.msgIn := rfl
@[simp] theorem buildFrame_cfg (c : BitVec 6) (a : BitVec 32) (s : State) : (buildFrame c a s).cfg = s.cfg := rfl
@[simp] theorem buildFrame_ret (c : BitVec 6) (a : BitVec 32) (s : State) : (buildFrame c a s).ret = s.ret := rfl
@[simp] theorem buildFrame_grain (c : BitVec 6) (a : BitVec 32) (s : State) : (buildFrame c a s).grain = s.grain := rfl
@[simp] theorem buildFrame_draw (c : BitVec 6) (a : BitVec 32) (s : State) : (buildFrame c a s).draw = s.draw := rfl

@[simp] theorem deliverOutcome_ctxValid (s : State) : (deliverOutcome s).ctxValid = s.ctxValid := rfl
@[simp] theorem deliverOutcome_ctxDiv (s : State) : (deliverOutcome s).ctxDiv = s.ctxDiv := rfl
@[simp] theorem deliverOutcome_ctxTb (s : State) : (deliverOutcome s).ctxTb = s.ctxTb := rfl
@[simp] theorem deliverOutcome_seq (s : State) : (deliverOutcome s).seq = s.seq := rfl
@[simp] theorem deliverOutcome_busHeld (s : State) : (deliverOutcome s).busHeld = s.busHeld := rfl
@[simp] theorem deliverOutcome_op (s : State) : (deliverOutcome s).op = s.op := rfl
@[simp] theorem deliverOutcome_cmd (s : State) : (deliverOutcome s).cmd = s.cmd := rfl
@[simp] theorem deliverOutcome_arg (s : State) : (deliverOutcome s).arg = s.arg := rfl
@[simp] theorem deliverOutcome_rlen (s : State) : (deliverOutcome s).rlen = s.rlen := rfl
@[simp] theorem deliverOutcome_frameBuf (s : State) : (deliverOutcome s).frameBuf = s.frameBuf := rfl
@[simp] theorem deliverOutcome_acc (s : State) : (deliverOutcome s).acc = s.acc := rfl
@[simp] theorem deliverOutcome_crcOut (s : State) : (deliverOutcome s).crcOut = s.crcOut := rfl
@[simp] theorem deliverOutcome_pollCnt (s : State) : (deliverOutcome s).pollCnt = s.pollCnt := rfl
@[simp] theorem deliverOutcome_attCnt (s : State) : (deliverOutcome s).attCnt = s.attCnt := rfl
@[simp] theorem deliverOutcome_status (s : State) : (deliverOutcome s).status = s.status := rfl
@[simp] theorem deliverOutcome_token (s : State) : (deliverOutcome s).token = s.token := rfl
@[simp] theorem deliverOutcome_resp (s : State) : (deliverOutcome s).resp = s.resp := rfl
@[simp] theorem deliverOutcome_data (s : State) : (deliverOutcome s).data = s.data := rfl
@[simp] theorem deliverOutcome_result (s : State) : (deliverOutcome s).result = pollOutcome s := rfl
@[simp] theorem deliverOutcome_rx (s : State) : (deliverOutcome s).rx = s.rx := rfl
@[simp] theorem deliverOutcome_rxPos (s : State) : (deliverOutcome s).rxPos = s.rxPos := rfl
@[simp] theorem deliverOutcome_txRev (s : State) : (deliverOutcome s).txRev = s.txRev := rfl
@[simp] theorem deliverOutcome_host (s : State) : (deliverOutcome s).host = s.host := rfl
@[simp] theorem deliverOutcome_msgIn (s : State) : (deliverOutcome s).msgIn = s.msgIn := rfl
@[simp] theorem deliverOutcome_cfg (s : State) : (deliverOutcome s).cfg = s.cfg := rfl
@[simp] theorem deliverOutcome_ret (s : State) : (deliverOutcome s).ret = s.ret := rfl
@[simp] theorem deliverOutcome_grain (s : State) : (deliverOutcome s).grain = s.grain := rfl
@[simp] theorem deliverOutcome_draw (s : State) : (deliverOutcome s).draw = s.draw := rfl

@[simp] theorem loadExchange_ctxValid (r : Seq) (c : BitVec 6) (a : BitVec 32) (n : Nat) (s : State) : (loadExchange r c a n s).ctxValid = s.ctxValid := rfl
@[simp] theorem loadExchange_ctxDiv (r : Seq) (c : BitVec 6) (a : BitVec 32) (n : Nat) (s : State) : (loadExchange r c a n s).ctxDiv = s.ctxDiv := rfl
@[simp] theorem loadExchange_ctxTb (r : Seq) (c : BitVec 6) (a : BitVec 32) (n : Nat) (s : State) : (loadExchange r c a n s).ctxTb = s.ctxTb := rfl
@[simp] theorem loadExchange_seq (r : Seq) (c : BitVec 6) (a : BitVec 32) (n : Nat) (s : State) : (loadExchange r c a n s).seq = s.seq := rfl
@[simp] theorem loadExchange_busHeld (r : Seq) (c : BitVec 6) (a : BitVec 32) (n : Nat) (s : State) : (loadExchange r c a n s).busHeld = s.busHeld := rfl
@[simp] theorem loadExchange_op (r : Seq) (c : BitVec 6) (a : BitVec 32) (n : Nat) (s : State) : (loadExchange r c a n s).op = s.op := rfl
@[simp] theorem loadExchange_cmd (r : Seq) (c : BitVec 6) (a : BitVec 32) (n : Nat) (s : State) : (loadExchange r c a n s).cmd = c := rfl
@[simp] theorem loadExchange_arg (r : Seq) (c : BitVec 6) (a : BitVec 32) (n : Nat) (s : State) : (loadExchange r c a n s).arg = a := rfl
@[simp] theorem loadExchange_rlen (r : Seq) (c : BitVec 6) (a : BitVec 32) (n : Nat) (s : State) : (loadExchange r c a n s).rlen = n := rfl
@[simp] theorem loadExchange_frameBuf (r : Seq) (c : BitVec 6) (a : BitVec 32) (n : Nat) (s : State) : (loadExchange r c a n s).frameBuf = s.frameBuf := rfl
@[simp] theorem loadExchange_acc (r : Seq) (c : BitVec 6) (a : BitVec 32) (n : Nat) (s : State) : (loadExchange r c a n s).acc = s.acc := rfl
@[simp] theorem loadExchange_crcOut (r : Seq) (c : BitVec 6) (a : BitVec 32) (n : Nat) (s : State) : (loadExchange r c a n s).crcOut = s.crcOut := rfl
@[simp] theorem loadExchange_pollCnt (r : Seq) (c : BitVec 6) (a : BitVec 32) (n : Nat) (s : State) : (loadExchange r c a n s).pollCnt = s.pollCnt := rfl
@[simp] theorem loadExchange_attCnt (r : Seq) (c : BitVec 6) (a : BitVec 32) (n : Nat) (s : State) : (loadExchange r c a n s).attCnt = s.attCnt := rfl
@[simp] theorem loadExchange_status (r : Seq) (c : BitVec 6) (a : BitVec 32) (n : Nat) (s : State) : (loadExchange r c a n s).status = s.status := rfl
@[simp] theorem loadExchange_token (r : Seq) (c : BitVec 6) (a : BitVec 32) (n : Nat) (s : State) : (loadExchange r c a n s).token = s.token := rfl
@[simp] theorem loadExchange_resp (r : Seq) (c : BitVec 6) (a : BitVec 32) (n : Nat) (s : State) : (loadExchange r c a n s).resp = s.resp := rfl
@[simp] theorem loadExchange_data (r : Seq) (c : BitVec 6) (a : BitVec 32) (n : Nat) (s : State) : (loadExchange r c a n s).data = s.data := rfl
@[simp] theorem loadExchange_result (r : Seq) (c : BitVec 6) (a : BitVec 32) (n : Nat) (s : State) : (loadExchange r c a n s).result = s.result := rfl
@[simp] theorem loadExchange_rx (r : Seq) (c : BitVec 6) (a : BitVec 32) (n : Nat) (s : State) : (loadExchange r c a n s).rx = s.rx := rfl
@[simp] theorem loadExchange_rxPos (r : Seq) (c : BitVec 6) (a : BitVec 32) (n : Nat) (s : State) : (loadExchange r c a n s).rxPos = s.rxPos := rfl
@[simp] theorem loadExchange_txRev (r : Seq) (c : BitVec 6) (a : BitVec 32) (n : Nat) (s : State) : (loadExchange r c a n s).txRev = s.txRev := rfl
@[simp] theorem loadExchange_host (r : Seq) (c : BitVec 6) (a : BitVec 32) (n : Nat) (s : State) : (loadExchange r c a n s).host = s.host := rfl
@[simp] theorem loadExchange_msgIn (r : Seq) (c : BitVec 6) (a : BitVec 32) (n : Nat) (s : State) : (loadExchange r c a n s).msgIn = s.msgIn := rfl
@[simp] theorem loadExchange_cfg (r : Seq) (c : BitVec 6) (a : BitVec 32) (n : Nat) (s : State) : (loadExchange r c a n s).cfg = s.cfg := rfl
@[simp] theorem loadExchange_ret (r : Seq) (c : BitVec 6) (a : BitVec 32) (n : Nat) (s : State) : (loadExchange r c a n s).ret = r := rfl
@[simp] theorem loadExchange_grain (r : Seq) (c : BitVec 6) (a : BitVec 32) (n : Nat) (s : State) : (loadExchange r c a n s).grain = s.grain := rfl
@[simp] theorem loadExchange_draw (r : Seq) (c : BitVec 6) (a : BitVec 32) (n : Nat) (s : State) : (loadExchange r c a n s).draw = s.draw := rfl

end Sys2Proof.Machine
end

