-- ==== Sys2Proof/Laws/Endings.lean ====
section
/-! SUPPORT. Everything the ending of an operation can do (60_exceptions.md R209). -/

namespace Sys2Proof.Machine

/-- The ending of a host's operation, by whether the bus is held. -/
theorem finish_eq (r : Result) (s : State) :
    finish r s = { s with
      busHeld := false, result := r, seq := .idle, ret := .idle,
      txRev := if s.busHeld then .release :: s.txRev else s.txRev } := by
  cases h : s.busHeld <;> simp [finish, releaseIfHeld, releaseBus, emit, h]

/-- The ending of an exchange, by whether the bus is held. -/
theorem endExchange_eq (r : Result) (s : State) :
    endExchange r s = { s with
      busHeld := false, result := r, seq := s.ret,
      txRev := if s.busHeld then .release :: s.txRev else s.txRev } := by
  cases h : s.busHeld <;> simp [endExchange, releaseIfHeld, releaseBus, emit, h]

/-- No ending leaves the bus held (R235). -/
@[simp] theorem finish_busHeld (r : Result) (s : State) : (finish r s).busHeld = false := by rw [finish_eq]
@[simp] theorem endExchange_busHeld (r : Result) (s : State) : (endExchange r s).busHeld = false := by rw [endExchange_eq]
@[simp] theorem finish_result (r : Result) (s : State) : (finish r s).result = r := by rw [finish_eq]
@[simp] theorem endExchange_result (r : Result) (s : State) : (endExchange r s).result = r := by rw [endExchange_eq]
@[simp] theorem finish_seq (r : Result) (s : State) : (finish r s).seq = .idle := by rw [finish_eq]
@[simp] theorem endExchange_seq (r : Result) (s : State) : (endExchange r s).seq = s.ret := by rw [endExchange_eq]
@[simp] theorem finish_data (r : Result) (s : State) : (finish r s).data = s.data := by rw [finish_eq]
@[simp] theorem endExchange_data (r : Result) (s : State) : (endExchange r s).data = s.data := by rw [endExchange_eq]
@[simp] theorem finish_resp (r : Result) (s : State) : (finish r s).resp = s.resp := by rw [finish_eq]
@[simp] theorem endExchange_resp (r : Result) (s : State) : (endExchange r s).resp = s.resp := by rw [endExchange_eq]
@[simp] theorem finish_status (r : Result) (s : State) : (finish r s).status = s.status := by rw [finish_eq]
@[simp] theorem endExchange_status (r : Result) (s : State) : (endExchange r s).status = s.status := by rw [endExchange_eq]

/-- `conclude` ends with RESULT the class given, and with the bus free (R209). -/
theorem conclude_result_busHeld (r : Result) (s : State) :
    (conclude r s).result = r ∧ (conclude r s).busHeld = false := by
  unfold conclude enterNegotiation loadAttempts
  dsimp only
  split <;> split <;> (try split) <;> simp

/-- A status poll ends with SUCCESS or TIMEOUT, no other class (R152, R153). -/
theorem pollOutcome_cases (s : State) : pollOutcome s = .success ∨ pollOutcome s = .timeout := by
  unfold pollOutcome
  split <;> simp

/-- The draw at the start of a status poll: STATUS changes only at CTX_TB = 0 (R153, R154). -/
theorem startPoll_eq (s : State) :
    startPoll s = { s with
      pollCnt := s.ctxTb,
      status := if s.ctxTb = 0 then Config.freeByte s.draw else s.status,
      draw := if s.ctxTb = 0 then s.draw + 1 else s.draw } := by
  by_cases h : s.ctxTb = 0 <;> simp [startPoll, drawStatus, h]

end Sys2Proof.Machine
end

