-- ==== Sys2Proof/Laws/PerInstr.lean ====
section
/-! SUPPORT. One lemma per constructor of Instr: decoding what the encoder writes for a well-formed instruction gives the
instruction back. -/

namespace Sys2Proof.Laws.RoundTrip

open Sys2Proof Sys2Proof.Machine

def Statement (i : Instr) : Prop := i.wellFormed = true → decode (encode i) = .ok i

theorem crc7 (m : List Byte) : Statement (.crc7 m) := fun _ => rfl
theorem frame (c : BitVec 6) (a : BitVec 32) : Statement (.frame c a) := fun _ => rfl
theorem xr1 (c : BitVec 6) (a : BitVec 32) : Statement (.xr1 c a) := fun _ => rfl
theorem xcmd (c : BitVec 6) (a : BitVec 32) (n : Nat) : Statement (.xcmd c a n) := fun _ => rfl
theorem rdblk (a : BitVec 32) : Statement (.rdblk a) := fun _ => rfl
theorem init (b o : Div) (n : Nat) : Statement (.init b o n) := fun _ => rfl

theorem reservedOp (x : BitVec 1) : Statement (.reservedOp x) := by
  have h : ∀ y : BitVec 1, decodeOp (0b11#2 ++ y) Operands.zero = .reservedOp y := by decide
  exact fun _ => congrArg Except.ok (h x)

theorem cmdn (c : BitVec 6) (a : BitVec 32) (k : BitVec 7) : Statement (.cmdn c a k) := by
  intro h
  simp only [Instr.wellFormed, Bool.and_eq_true, decide_eq_true_eq] at h
  simp only [decode, encode, decodeFrame_frameBits c a k h.2, if_neg h.1.2]

theorem cmd0 : Statement .cmd0 := by intro _; decide
theorem cmd8 : Statement .cmd8 := by intro _; decide
theorem cmd55 : Statement .cmd55 := by intro _; decide
theorem acmd41 : Statement .acmd41 := by intro _; decide
theorem cmd58 : Statement .cmd58 := by intro _; decide

theorem cmd17 (a : BitVec 32) (k : BitVec 7) : Statement (.cmd17 a k) := by
  intro _
  simp only [decode, encode, decodeFrame_frameBits readCmd a k (frameBits_read_not_fixed a k), if_true]

theorem r1 (f : BitVec 7) : Statement (.r1 f) := by
  intro _
  simp only [decode, encode, decodeR1, append_flags, append_top]
  rfl

theorem r3r7 (f : BitVec 7) (p1 p2 p3 p4 : Byte) : Statement (.r3r7 f p1 p2 p3 p4) :=
  fun _ => decodeR3R7_append f p1 p2 p3 p4

theorem stValid (f : BitVec 7) : Statement (.stValid f) := by
  intro _
  simp only [decode, encode, decodeStatus, append_flags, append_top]
  rfl

theorem stSkip (x : BitVec 7) : Statement (.stSkip x) := by
  intro _
  simp only [decode, encode, decodeStatus, append_flags, append_top]
  rfl

theorem tkFill : Statement .tkFill := by intro _; decide
theorem tkStart : Statement .tkStart := by intro _; decide

theorem tkOther (t : Byte) : Statement (.tkOther t) := by
  intro h
  simp only [Instr.wellFormed, Bool.and_eq_true, decide_eq_true_eq] at h
  simp only [decode, encode, decodeToken, if_neg h.1, if_neg h.2]

theorem success : Statement .success := by intro _; decide
theorem timeout : Statement .timeout := by intro _; decide
theorem notSupported : Statement .notSupported := by intro _; decide
theorem badResponse : Statement .badResponse := by intro _; decide
theorem checksumError : Statement .checksumError := by intro _; decide

end Sys2Proof.Laws.RoundTrip
end

