-- ==== Sys2Proof/Laws/Stream.lean ====
section
/-! SUPPORT. The input stream RX (00_scope.md R10): taking bytes moves along it, and a byte's value depends only on its
place in it. -/

namespace Sys2Proof.Machine

/-- Taking `n` bytes moves RX along by `n`. -/
@[simp] theorem rxAt_rxDrop (s : State) (n i : Nat) : (s.rxDrop n).rxAt i = s.rxAt (n + i) := by
  simp only [State.rxAt, rxDrop_rx, rxDrop_rxPos, List.getD_eq_getElem?_getD, List.getElem?_drop, Nat.add_assoc]

/-- A byte of RX depends on RX and the position alone. -/
theorem rxAt_congr {s t : State} (h : t.rx = s.rx) (hp : t.rxPos = s.rxPos) (i : Nat) : t.rxAt i = s.rxAt i := by
  simp only [State.rxAt, h, hp]

@[simp] theorem rxAt_statusByte (b : Byte) (s : State) (i : Nat) : (statusByte b s).rxAt i = s.rxAt i := rfl
@[simp] theorem rxAt_tokenByte (b : Byte) (s : State) (i : Nat) : (tokenByte b s).rxAt i = s.rxAt i := rfl
@[simp] theorem rxAt_emit (e : Event) (s : State) (i : Nat) : (emit e s).rxAt i = s.rxAt i := rfl

/-- `n` bytes are `n` bytes. -/
@[simp] theorem rxTake_length (s : State) (n : Nat) : (s.rxTake n).length = n := by simp [State.rxTake]

@[simp] theorem rxTake_zero (s : State) : s.rxTake 0 = [] := rfl

/-- The first of `n + 1` bytes, then the rest from the next place on. -/
theorem rxTake_succ (s : State) (n : Nat) : s.rxTake (n + 1) = s.rxAt 0 :: (s.rxDrop 1).rxTake n := by
  simp only [State.rxTake, List.range_succ_eq_map, List.map_cons, List.map_map, List.cons.injEq, true_and]
  apply List.map_congr_left
  intro i _
  simp [Nat.add_comm]

/-- Taking bytes twice is taking their sum. -/
theorem rxDrop_rxDrop (s : State) (m n : Nat) : (s.rxDrop m).rxDrop n = s.rxDrop (m + n) := by
  simp only [State.rxDrop, List.drop_drop, Nat.add_assoc]

@[simp] theorem rxDrop_zero (s : State) : s.rxDrop 0 = s := rfl

end Sys2Proof.Machine
end

