-- ==== Sys2Proof/Laws/Poll.lean ====
section
/-! SUPPORT. Everything the two polls can do (42_exchange.md R153, 44_block_read.md R192): one lemma per ending. -/

namespace Sys2Proof.Machine

/-- The state after `n` status poll attempts whose bytes are the next `n` of RX. -/
def afterStatusBytes : Nat → State → State
  | 0, s => s
  | n + 1, s => afterStatusBytes n (statusByte (s.rxAt 0) (s.rxDrop 1))

/-- The state after `n` token poll attempts. -/
def afterTokenBytes : Nat → State → State
  | 0, s => s
  | n + 1, s => afterTokenBytes n (tokenByte (s.rxAt 0) (s.rxDrop 1))

/-- What `n` status poll attempts leave, for at least one attempt. -/
theorem afterStatusBytes_succ (n : Nat) (s : State) :
    afterStatusBytes (n + 1) s = { s with
      status := s.rxAt n, pollCnt := s.pollCnt - (n + 1), seq := .xPoll,
      rx := s.rx.drop (n + 1), rxPos := s.rxPos + (n + 1),
      txRev := ((s.rxTake (n + 1)).map Event.rx).reverse ++ s.txRev } := by
  induction n generalizing s with
  | zero => simp [afterStatusBytes, statusByte, emit, State.rxDrop, State.rxTake]
  | succ n ih =>
    rw [afterStatusBytes, ih, rxTake_succ s (n + 1)]
    simp only [rxAt_statusByte, rxAt_rxDrop, statusByte_pollCnt, statusByte_rx, statusByte_rxPos, statusByte_txRev,
      rxDrop_rx, rxDrop_rxPos, rxDrop_pollCnt, rxDrop_txRev, List.drop_drop, List.map_cons, List.reverse_cons,
      List.append_assoc, List.singleton_append]
    simp only [statusByte, emit, State.rxDrop, State.rxTake, State.rxAt, State.mk.injEq, true_and, and_true]
    simp only [Nat.add_comm 1, Nat.add_assoc, Nat.sub_sub]
    exact ⟨trivial, trivial, trivial, trivial, rfl⟩

/-- The status poll when no valid byte comes within its attempts (R153): all of them are made. -/
theorem pollLoop_timeout (n : Nat) (s : State) (h : ∀ j, j < n → validStatus (s.rxAt j) = false) :
    pollLoop n s = afterStatusBytes n s := by
  induction n generalizing s with
  | zero => rfl
  | succ n ih =>
    rw [pollLoop, if_neg (by simp [h 0 (Nat.succ_pos n)]), afterStatusBytes]
    exact ih _ (fun j hj => by simpa [Nat.add_comm] using h (j + 1) (by omega))

/-- The status poll when the first valid byte stands at `k`, within the attempts (R153): it stops there. -/
theorem pollLoop_success (n k : Nat) (s : State) (hk : k < n) (h : ∀ j, j < k → validStatus (s.rxAt j) = false)
    (hv : validStatus (s.rxAt k) = true) : pollLoop n s = afterStatusBytes (k + 1) s := by
  induction k generalizing n s with
  | zero =>
    obtain ⟨m, rfl⟩ : ∃ m, n = m + 1 := ⟨n - 1, by omega⟩
    rw [pollLoop, if_pos hv]; rfl
  | succ k ih =>
    obtain ⟨m, rfl⟩ : ∃ m, n = m + 1 := ⟨n - 1, by omega⟩
    rw [pollLoop, if_neg (by simp [h 0 (Nat.succ_pos k)]), afterStatusBytes]
    exact ih m _ (by omega) (fun j hj => by simpa [Nat.add_comm] using h (j + 1) (by omega))
      (by simpa [Nat.add_comm] using hv)

/-- The token poll over filler only (R192): every attempt is made, nothing is found. -/
theorem tokenLoop_timeout (n : Nat) (s : State) (h : ∀ j, j < n → isFiller (s.rxAt j) = true) :
    tokenLoop n s = (false, afterTokenBytes n s) := by
  induction n generalizing s with
  | zero => rfl
  | succ n ih =>
    rw [tokenLoop, if_pos (h 0 (Nat.succ_pos n)), afterTokenBytes]
    exact ih _ (fun j hj => by simpa [Nat.add_comm] using h (j + 1) (by omega))

/-- The token poll when the first byte that is not filler stands at `k`, within the attempts (R192). -/
theorem tokenLoop_found (n k : Nat) (s : State) (hk : k < n) (h : ∀ j, j < k → isFiller (s.rxAt j) = true)
    (hv : isFiller (s.rxAt k) = false) : tokenLoop n s = (true, afterTokenBytes (k + 1) s) := by
  induction k generalizing n s with
  | zero =>
    obtain ⟨m, rfl⟩ : ∃ m, n = m + 1 := ⟨n - 1, by omega⟩
    rw [tokenLoop, if_neg (by simp [hv])]; rfl
  | succ k ih =>
    obtain ⟨m, rfl⟩ : ∃ m, n = m + 1 := ⟨n - 1, by omega⟩
    rw [tokenLoop, if_pos (h 0 (Nat.succ_pos k)), afterTokenBytes]
    exact ih m _ (by omega) (fun j hj => by simpa [Nat.add_comm] using h (j + 1) (by omega))
      (by simpa [Nat.add_comm] using hv)

/-- Every status poll ends one way or the other: at a first valid byte within its attempts, or after all of them. -/
theorem firstValid_or_none (n : Nat) (s : State) :
    (∃ k, k < n ∧ (∀ j, j < k → validStatus (s.rxAt j) = false) ∧ validStatus (s.rxAt k) = true) ∨
    (∀ j, j < n → validStatus (s.rxAt j) = false) := by
  induction n with
  | zero => exact .inr (fun j hj => absurd hj (Nat.not_lt_zero j))
  | succ n ih =>
    rcases ih with ⟨k, hk, hb, hv⟩ | hall
    · exact .inl ⟨k, by omega, hb, hv⟩
    · cases hv : validStatus (s.rxAt n) with
      | true => exact .inl ⟨n, Nat.lt_succ_self n, hall, hv⟩
      | false =>
        refine .inr (fun j hj => ?_)
        rcases Nat.lt_succ_iff_lt_or_eq.mp hj with h | rfl
        · exact hall j h
        · exact hv

end Sys2Proof.Machine
end

