-- ==== Sys2Proof/Tests/Slice0.lean ====
section
/-! SUPPORT. The model's own tests. Expected values are the spec's: the encodings of 30_encoding.md and spec/opcode_table.json,
and the vectors of 95_test_vectors.md, named in each docstring. At the end, a witness for the hypotheses of each obligation. -/

namespace Sys2Proof.Tests

open Sys2Proof Sys2Proof.Machine Sys2Proof.Spec

-- The kernel evaluations of this file one after another: a thread for each exhausts the memory limit.
set_option Elab.async false

/-! ### Helpers -/

/-- The next state of an outcome, none for a fault or a refusal. -/
def nextOf : Host.Outcome State Fault Refusal → Option State
  | .next s => some s
  | .fault _ => none
  | .refused _ => none

/-- The refusal of an outcome. -/
def refusalOf : Host.Outcome State Fault Refusal → Option Refusal
  | .next _ => none
  | .fault _ => none
  | .refused r => some r

/-- An outcome is a next state of which `p` holds. -/
def endsIn (p : State → Bool) (o : Host.Outcome State Fault Refusal) : Bool :=
  match nextOf o with
  | some t => p t
  | none => false

/-- What `endsIn` says, as the obligations write it. -/
theorem next_of_endsIn {p : State → Bool} {o : Host.Outcome State Fault Refusal} (h : endsIn p o = true) :
    ∃ t, o = .next t ∧ p t = true := by
  cases o with
  | next s => exact ⟨s, rfl, h⟩
  | fault r => exact absurd h (by simp [endsIn, nextOf])
  | refused r => exact absurd h (by simp [endsIn, nextOf])

/-- An idle block with a context, timeout bound `tb`, and the card about to answer `rx`. -/
def ready (tb : Nat) (rx : List Byte) : State := { State.reset with ctxValid := true, ctxTb := tb, rx := rx }

/-- The same with small budgets: at most two negotiation attempts and three token polls. -/
def readySmall (tb : Nat) (rx : List Byte) : State :=
  { ready tb rx with cfg := { preambleClocks := 0, drainCrc := false, negAttempts := 2, tokenPolls := 3 } }

/-- TX, RESULT, STATUS and the number of bytes taken. -/
def report (s : State) : List Event × Result × Byte × Nat := (s.tx, s.result, s.status, s.rxPos)

/-- The end of an INIT: RESULT, transactions, configurations, bytes taken. -/
def initReport (s : State) : Result × Nat × List Event × Nat :=
  (s.result, acquires s.tx, configurations s.tx, s.rxPos)

/-! ### WellFormed refuses an ill-formed term, one for each check -/

theorem test_wf_xcmd_no_bytes : Instr.wellFormed (.xcmd 0#6 0#32 0) = false := by decide
theorem test_wf_xcmd_six_bytes : Instr.wellFormed (.xcmd 0#6 0#32 6) = false := by decide
theorem test_wf_xcmd_five_bytes : Instr.wellFormed (.xcmd 0#6 0#32 5) = true := by decide
theorem test_wf_cmdn_checksum : Instr.wellFormed (.cmdn 13#6 0#32 7#7) = false := by decide +kernel
theorem test_wf_cmdn_is_cmd17 : Instr.wellFormed (.cmdn 17#6 0#32 0x2A#7) = false := by decide +kernel
theorem test_wf_cmdn_is_cmd0 : Instr.wellFormed (.cmdn 0#6 0#32 0x4A#7) = false := by decide +kernel
theorem test_wf_cmd17_checksum : Instr.wellFormed (.cmd17 0#32 0x2B#7) = false := by decide +kernel
theorem test_wf_tkOther_filler : Instr.wellFormed (.tkOther 0xFF#8) = false := by decide
theorem test_wf_tkOther_start : Instr.wellFormed (.tkOther 0xFE#8) = false := by decide

/-! ### Decoding: every constructor, its word written out from spec/opcode_table.json -/

theorem test_decode_crc7 : decode (.op 0b000#3 { Operands.zero with msg := [0x40#8] }) = .ok (.crc7 [0x40#8]) := by decide
theorem test_decode_frame : decode (.op 0b001#3 { Operands.zero with cmd := 17#6, arg := 0x200#32 }) =
    .ok (.frame 17#6 0x200#32) := by decide
theorem test_decode_xr1 : decode (.op 0b010#3 { Operands.zero with cmd := 17#6 }) = .ok (.xr1 17#6 0#32) := by decide
theorem test_decode_xcmd : decode (.op 0b011#3 { Operands.zero with cmd := 8#6, arg := 0x1AA#32, rlen := 5 }) =
    .ok (.xcmd 8#6 0x1AA#32 5) := by decide
theorem test_decode_rdblk : decode (.op 0b100#3 { Operands.zero with arg := 0x200#32 }) = .ok (.rdblk 0x200#32) := by decide
theorem test_decode_init : decode (.op 0b101#3 { Operands.zero with boot := ⟨1⟩, oper := ⟨2⟩, bound := 4 }) =
    .ok (.init ⟨1⟩ ⟨2⟩ 4) := by decide
theorem test_decode_reservedOp : decode (.op 0b110#3 Operands.zero) = .ok (.reservedOp 0#1) ∧
    decode (.op 0b111#3 Operands.zero) = .ok (.reservedOp 1#1) := by decide
/-- Bits 01 001101, 32 argument bits 0, checksum 0000110, stop bit (V-FRM-17). -/
theorem test_decode_cmdn : decode (.frame48 0b010011010000000000000000000000000000000000001101#48) =
    .ok (.cmdn 13#6 0#32 6#7) := by decide
theorem test_decode_cmd0 : decode (.frame48 0b010000000000000000000000000000000000000010010101#48) = .ok .cmd0 := by decide
theorem test_decode_cmd8 : decode (.frame48 0b010010000000000000000000000000011010101010000111#48) = .ok .cmd8 := by decide
theorem test_decode_cmd55 : decode (.frame48 0b011101110000000000000000000000000000000001100101#48) = .ok .cmd55 := by decide
theorem test_decode_acmd41 : decode (.frame48 0b011010010100000000000000000000000000000001110111#48) = .ok .acmd41 := by decide
theorem test_decode_cmd58 : decode (.frame48 0b011110100000000000000000000000000000000011111101#48) = .ok .cmd58 := by decide
/-- Bits 01 010001, argument 0x00000200, checksum byte 0x79 (V-FRM-8). -/
theorem test_decode_cmd17 : decode (.frame48 0b010100010000000000000000000000100000000001111001#48) =
    .ok (.cmd17 0x200#32 0b0111100#7) := by decide
theorem test_decode_r1 : decode (.respR1 0b00000101#8) = .ok (.r1 5#7) := by decide
theorem test_decode_r3r7 : decode (.respR3R7 0b0000000000000000000000000000000110101010#40) =
    .ok (.r3r7 0#7 0x00#8 0x00#8 0x01#8 0xAA#8) := by decide
theorem test_decode_stValid : decode (.statusPoll 0b01111111#8) = .ok (.stValid 0x7F#7) := by decide
theorem test_decode_stSkip : decode (.statusPoll 0b11000001#8) = .ok (.stSkip 0x41#7) := by decide
theorem test_decode_tkFill : decode (.tokenPoll 0b11111111#8) = .ok .tkFill := by decide
theorem test_decode_tkStart : decode (.tokenPoll 0b11111110#8) = .ok .tkStart := by decide
theorem test_decode_tkOther : decode (.tokenPoll 0b00001001#8) = .ok (.tkOther 0x09#8) := by decide
theorem test_decode_success : decode (.resultCode 0b000#3) = .ok .success := by decide
theorem test_decode_timeout : decode (.resultCode 0b001#3) = .ok .timeout := by decide
theorem test_decode_notSupported : decode (.resultCode 0b010#3) = .ok .notSupported := by decide
theorem test_decode_badResponse : decode (.resultCode 0b011#3) = .ok .badResponse := by decide
theorem test_decode_checksumError : decode (.resultCode 0b100#3) = .ok .checksumError := by decide

/-- What is no instruction is rejected by name. -/
theorem test_decode_rejects : decode (.frame48 0x000000000095#48) = .error .frameStartBits ∧
    decode (.frame48 0x400000000094#48) = .error .frameStopBit ∧
    decode (.respR1 0x80#8) = .error .responseNotValid ∧
    decode (.respR3R7 0x8000000000#40) = .error .responseNotValid ∧
    decode (.resultCode 0b111#3) = .error .resultCodeUnnamed := by decide

/-- The host's numbering of a table word, and the very next step after reset runs it. -/
theorem test_table_word_cmd0 : decodeTableWord 48 0x400000000095 = some .cmd0 ∧
    (nextOf (step (State.reset.withFetchWord 48 0x400000000095))).map (·.seq) = some .xSend := by decide +kernel
theorem test_table_word_init : decodeTableWord 8 5 = some (.init ⟨0⟩ ⟨0⟩ 0) ∧
    (nextOf (step (State.reset.withFetchWord 8 5))).map (·.result) = some .timeout := by decide +kernel

/-! ### The CRC-7 generator (95_test_vectors.md section 2.1) -/

/-- V-CRC-1, with the accumulator after each byte. -/
theorem test_crc_bytes : [crcBytes 0#8 [0x40#8], crcBytes 0#8 [0x40#8, 0#8], crcBytes 0#8 [0x40#8, 0#8, 0#8],
    crcBytes 0#8 [0x40#8, 0#8, 0#8, 0#8], crc7 [0x40#8, 0#8, 0#8, 0#8, 0#8]] =
    [0xC8#8, 0xDA#8, 0xCC#8, 0x92#8, 0x94#8] := by decide +kernel
/-- V-CRC-9: the nine digits. -/
theorem test_crc_digits : crc7 [0x31#8, 0x32#8, 0x33#8, 0x34#8, 0x35#8, 0x36#8, 0x37#8, 0x38#8, 0x39#8] = 0xEA#8 := by
  decide +kernel
/-- V-CRC-7 and V-CRC-8: the residues of a frame. -/
theorem test_crc_residue : crc7 [0x40#8, 0#8, 0#8, 0#8, 0#8, 0x94#8] = 0x00#8 ∧
    crc7 [0x40#8, 0#8, 0#8, 0#8, 0#8, 0x95#8] = 0x12#8 := by decide +kernel
/-- Entries 0x01, 0x0E, 0x80, 0xFF of the byte-step table (section 2.3). -/
theorem test_crc_table : [crcByte 0#8 0x01#8, crcByte 0#8 0x0E#8, crcByte 0#8 0x80#8, crcByte 0#8 0xFF#8] =
    [0x12#8, 0xFC#8, 0x82#8, 0xF2#8] := by decide +kernel

/-- CRC7 and FRAME run without a context (program P1). -/
theorem test_crc7_operation : (nextOf (exec (.crc7 [0x48#8, 0#8, 0#8, 0x01#8, 0xAA#8]) State.reset)).map
    (fun t => (t.crcOut, t.acc, t.ctxValid, t.tx)) = some (0x86#8, 0x86#8, false, []) := by decide +kernel
/-- V-FRM-9: byte order, the argument's most significant byte first. -/
theorem test_frame_order : (nextOf (exec (.frame 17#6 0x12345678#32) State.reset)).map (fun t => (t.frameBuf.toList, t.crcOut)) =
    some ([0x51#8, 0x12#8, 0x34#8, 0x56#8, 0x78#8, 0x5D#8], 0x5C#8) := by decide +kernel
/-- V-FRM-11: the largest command index. -/
theorem test_frame_largest : (frameBytes 63#6 0xFFFFFFFF#32).toList = [0x7F#8, 0xFF#8, 0xFF#8, 0xFF#8, 0xFF#8, 0x19#8] := by
  decide +kernel

/-! ### The exchange (section 2.5) -/

/-- V-X-2: valid on the last permitted attempt. -/
theorem test_xcmd_last_attempt : (nextOf (exec (.xcmd 0#6 0#32 1) (ready 4 [0xFF#8, 0xFF#8, 0xFF#8, 0x01#8]))).map
    (fun t => (report t, t.resp[0], t.pollCnt)) =
    some (([.acquire, .idle 1, .send [0x40#8, 0#8, 0#8, 0#8, 0#8, 0x95#8], .rx 0xFF#8, .rx 0xFF#8, .rx 0xFF#8, .rx 0x01#8,
      .release], .success, 0x01#8, 4), 0x01#8, 0) := by decide +kernel
/-- V-X-3: never one attempt more. -/
theorem test_xcmd_timeout : (nextOf (exec (.xcmd 0#6 0#32 1) (ready 4 [0xFF#8, 0xFF#8, 0xFF#8, 0xFF#8, 0x01#8]))).map
    (fun t => (report t, t.pollCnt, t.rx)) =
    some (([.acquire, .idle 1, .send [0x40#8, 0#8, 0#8, 0#8, 0#8, 0x95#8], .rx 0xFF#8, .rx 0xFF#8, .rx 0xFF#8, .rx 0xFF#8,
      .release], .timeout, 0xFF#8, 4), 0, [0x01#8]) := by decide +kernel
/-- V-X-7: three response bytes, the rest of RESP kept. -/
theorem test_xcmd_three_bytes : (nextOf (exec (.xcmd 58#6 0#32 3) (ready 4 [0xFF#8, 0x00#8, 0x12#8, 0x34#8]))).map
    (fun t => (t.result, t.resp.toList, t.rxPos, t.pollCnt)) =
    some (.success, [0x00#8, 0x12#8, 0x34#8, 0#8, 0#8], 4, 2) := by decide +kernel
/-- V-X-6: with CTX_TB 0 no attempt is made. -/
theorem test_xcmd_no_budget : (nextOf (exec (.xcmd 0#6 0#32 1) (ready 0 [0x01#8]))).map
    (fun t => (t.tx, t.result, t.rxPos, t.busHeld)) =
    some ([.acquire, .idle 1, .send [0x40#8, 0#8, 0#8, 0#8, 0#8, 0x95#8], .release], .timeout, 0, false) := by decide +kernel
/-- V-X-9, V-X-10, V-X-11. -/
theorem test_xcmd_refused : refusalOf (exec (.xcmd 0#6 0#32 0) (ready 4 [])) = some .badResponseLength ∧
    refusalOf (exec (.xcmd 0#6 0#32 6) (ready 4 [])) = some .badResponseLength ∧
    refusalOf (exec (.xcmd 0#6 0#32 1) State.reset) = some .noContext := by decide +kernel
/-- XR1 leaves the bus held and its class in RESULT (42_exchange.md R152, 10_state.md R22); the host may not issue it
(30_encoding.md R95). -/
theorem test_xr1_holds_the_bus : (nextOf (exec (.xr1 17#6 0#32) (ready 4 [0xFF#8, 0x00#8]))).map
    (fun t => (t.busHeld, t.status, t.result, t.txRev.head?)) = some (true, 0x00#8, .success, some (.rx 0x00#8)) ∧
    (nextOf (exec (.xr1 17#6 0#32) (ready 1 [0xFF#8]))).map (·.result) = some .timeout := by decide +kernel
theorem test_xr1_from_host : refusalOf (step { ready 4 [] with host := [⟨0b010#3, Operands.zero⟩] }) =
    some .internalOperation := by decide +kernel

/-! ### The block read (section 2.6) -/

/-- V-B-4: the idle bit alone is a rejection here. -/
theorem test_rdblk_status : (nextOf (exec (.rdblk 0#32) (ready 4 [0x01#8]))).map report =
    some ([.acquire, .idle 1, .send [0x51#8, 0#8, 0#8, 0#8, 0#8, 0x55#8], .rx 0x01#8, .release], .badResponse, 0x01#8, 1) := by
  decide +kernel
/-- V-B-6: an unexpected token. -/
theorem test_rdblk_token : (nextOf (exec (.rdblk 1#32) (ready 4 [0x00#8, 0xFF#8, 0xFF#8, 0x09#8]))).map report =
    some ([.acquire, .idle 1, .send [0x51#8, 0#8, 0#8, 0#8, 0x01#8, 0x47#8], .rx 0x00#8, .rx 0xFF#8, .rx 0xFF#8, .rx 0x09#8,
      .release], .badResponse, 0x00#8, 4) := by decide +kernel
/-- V-B-1 in shape: the block is exactly the 512 bytes after the token, the two checksum bytes are not taken. -/
theorem test_rdblk_block : endsIn (fun t => decide (t.result = .success) &&
      decide ([t.data[0], t.data[1], t.data[511]] = [0x11#8, 0x22#8, 0x33#8]) && decide (t.rxPos = 517) &&
      decide (t.rx = [0xAB#8, 0xCD#8]))
    (exec (.rdblk 0#32) (ready 4 ([0xFF#8, 0x00#8, 0xFF#8, 0xFF#8, 0xFE#8] ++
      (0x11#8 :: List.replicate 510 0x22#8) ++ [0x33#8, 0xAB#8, 0xCD#8]))) = true := by decide +kernel
/-- V-B-8 in shape, with the budget at 3: filler only. -/
theorem test_rdblk_filler : (nextOf (exec (.rdblk 0#32) (readySmall 4 [0x00#8, 0xFF#8, 0xFF#8, 0xFF#8, 0xFE#8]))).map
    (fun t => (t.result, t.status, t.rxPos, t.rx)) = some (.timeout, 0x00#8, 4, [0xFE#8]) := by decide +kernel

/-! ### The handshake (section 2.7) -/

/-- V-I-3: idle bit set, but not alone. -/
theorem test_init_status : (nextOf (exec (.init ⟨1⟩ ⟨2⟩ 2) { State.reset with rx := [0x05#8] })).map initReport =
    some (.timeout, 1, [.cfg ⟨1⟩ .msbFirst .mode0], 1) := by decide +kernel
/-- V-I-5: the echo differs, all else matches. -/
theorem test_init_echo : (nextOf (exec (.init ⟨1⟩ ⟨2⟩ 2)
    { State.reset with rx := [0x01#8, 0x01#8, 0#8, 0#8, 0x01#8, 0xAB#8] })).map initReport =
    some (.notSupported, 2, [.cfg ⟨1⟩ .msbFirst .mode0], 6) := by decide +kernel
/-- V-I-12: an exchange that times out spends the attempt and the loop goes on. -/
theorem test_init_success : (nextOf (exec (.init ⟨1⟩ ⟨2⟩ 2) { State.reset with rx :=
    [0x01#8, 0x01#8, 0#8, 0#8, 0x01#8, 0xAA#8, 0x01#8, 0xFF#8, 0xFF#8, 0x01#8, 0x00#8, 0x00#8, 0xC0#8, 0xFF#8, 0x80#8, 0x00#8]
    })).map (fun t => (initReport t, t.attCnt, t.ctxTb, t.ctxDiv)) =
    some ((.success, 7, [.cfg ⟨1⟩ .msbFirst .mode0, .cfg ⟨2⟩ .msbFirst .mode0], 16), 2998, 2, ⟨2⟩) := by decide +kernel
/-- V-I-18: both bits clear, the capacity test is reached first. -/
theorem test_init_capacity : (nextOf (exec (.init ⟨1⟩ ⟨2⟩ 2) { State.reset with rx :=
    [0x01#8, 0x01#8, 0#8, 0#8, 0x01#8, 0xAA#8, 0x01#8, 0x00#8, 0x00#8, 0x00#8, 0xFF#8, 0x80#8, 0x00#8] })).map initReport =
    some (.notSupported, 5, [.cfg ⟨1⟩ .msbFirst .mode0], 13) := by decide +kernel
/-- V-I-9 in shape, with two attempts: never ready. -/
theorem test_init_never_ready : (nextOf (exec (.init ⟨1⟩ ⟨2⟩ 2)
    (readySmall 0 [0x01#8, 0x01#8, 0#8, 0#8, 0x01#8, 0xAA#8, 0x01#8, 0x01#8, 0x01#8, 0x01#8]))).map
    (fun t => (initReport t, t.attCnt)) = some ((.timeout, 6, [.cfg ⟨1⟩ .msbFirst .mode0], 10), 0) := by decide +kernel

/-! ### The rows below the operations -/

/-- A block in the middle of a host's XCMD, at a sequencer point. -/
def inside (q : Seq) (rx : List Byte) : State := { ready 4 rx with seq := q, busHeld := true, pollCnt := 2 }

/-- A block in the middle of an RDBLK. -/
def insideRead (q : Seq) (rx : List Byte) : State := { readySmall 4 rx with
  seq := q, busHeld := true, pollCnt := 2, ret := .bCheck, cmd := 17#6 }

theorem test_cmd8_sent : (nextOf (exec .cmd8 (inside .xPulse []))).map (fun t => (t.txRev, t.seq, t.pollCnt, t.crcOut)) =
    some ([.send [0x48#8, 0#8, 0#8, 0x01#8, 0xAA#8, 0x87#8]], .xSend, 4, 0x86#8) := by decide +kernel
theorem test_acmd41_sent : (nextOf (exec .acmd41 (inside .xPulse []))).map (·.txRev) =
    some [.send [0x69#8, 0x40#8, 0#8, 0#8, 0#8, 0x77#8]] := by decide +kernel
theorem test_cmd55_sent : (nextOf (exec .cmd55 (inside .xPulse []))).map (·.txRev) =
    some [.send [0x77#8, 0#8, 0#8, 0#8, 0#8, 0x65#8]] := by decide +kernel
theorem test_cmd58_sent : (nextOf (exec .cmd58 (inside .xPulse []))).map (·.txRev) =
    some [.send [0x7A#8, 0#8, 0#8, 0#8, 0#8, 0xFD#8]] := by decide +kernel
theorem test_cmd17_sent : (nextOf (exec (.cmd17 1#32 0x23#7) (inside .xPulse []))).map (·.txRev) =
    some [.send [0x51#8, 0#8, 0#8, 0#8, 0x01#8, 0x47#8]] := by decide +kernel
theorem test_cmdn_wrong_checksum : refusalOf (exec (.cmdn 13#6 0#32 7#7) (inside .xPulse [])) = some .frameChecksumWrong := by
  decide +kernel
theorem test_stSkip_spends : (nextOf (exec (.stSkip 0x7F#7) (inside .xSend []))).map (fun t => (t.status, t.pollCnt, t.seq)) =
    some (0xFF#8, 1, .xPoll) := by decide +kernel
theorem test_stValid_ends : (nextOf (exec (.stValid 5#7) (inside .xPoll []))).map (fun t => (t.status, t.pollCnt)) = none ∧
    (nextOf (exec (.stValid 5#7) { inside .xPoll [] with status := 0xFF#8 })).map (fun t => (t.status, t.pollCnt)) =
      some (0x05#8, 1) := by decide +kernel
theorem test_tkFill_spends : (nextOf (exec .tkFill (insideRead .bCheck []))).map (fun t => (t.token, t.pollCnt, t.seq)) =
    some (0xFF#8, 1, .bToken) := by decide +kernel
theorem test_r3r7_stores : (nextOf (exec (.r3r7 1#7 2#8 3#8 4#8 5#8) { inside .xPoll [] with rlen := 5 })).map
    (fun t => (t.resp.toList, t.seq, t.busHeld)) = some ([1#8, 2#8, 3#8, 4#8, 5#8], .xPayload, true) := by decide +kernel
theorem test_r1_ends : (nextOf (exec (.r1 1#7) { inside .xPoll [] with status := 0x01#8 })).map
    (fun t => (t.resp[0], t.seq, t.busHeld, t.result, t.txRev)) = some (0x01#8, .idle, false, .success, [.release]) := by
  decide +kernel
theorem test_badResponse_ends : (nextOf (exec .badResponse { insideRead .bCheck [] with status := 0x01#8 })).map
    (fun t => (t.result, t.seq, t.busHeld, t.txRev)) = some (.badResponse, .idle, false, [.release]) := by decide +kernel
theorem test_checksumError_refused : refusalOf (exec .checksumError (inside .xPoll [])) = some .checksumErrorNeverProduced := by
  decide +kernel
theorem test_reservedOp_refused : refusalOf (exec (.reservedOp 1#1) State.reset) = some .reservedOperation := by decide +kernel

/-! ### Witnesses: concrete states and operands that meet the hypotheses of each obligation -/

/-- DecodeEncodeRoundTrip: a CMDn frame and an XCMD of the greatest length. -/
theorem witness_DecodeEncodeRoundTrip : Instr.wellFormed (.cmdn 13#6 0#32 6#7) = true ∧
    Instr.wellFormed (.xcmd 63#6 0xFFFFFFFF#32 5) = true := by decide +kernel

theorem witness_DecodedWordReencodes : (∀ c o, PortWord.respR1 0x7F#8 ≠ .op c o) ∧
    decode (.respR1 0x7F#8) = .ok (.r1 0x7F#7) := ⟨by simp, by decide⟩

theorem witness_TokenByteClasses : (0xFD#8 : Byte) ≠ 0xFF#8 ∧ (0xFD#8 : Byte) ≠ 0xFE#8 := by decide

/-- The host port. -/
theorem witness_StepRuns_host : ∃ (s : State) (r : Request) (rest : List Request) (i : Instr),
    s.seq = .idle ∧ s.grain = .operation ∧ s.host = r :: rest ∧ decode (.op r.code r.opr) = .ok i ∧ hostMayIssue i = true :=
  ⟨{ ready 4 [] with host := [⟨0b011#3, Operands.zero⟩] }, _, [], .xcmd 0#6 0#32 1, rfl, rfl, rfl, by decide, rfl⟩

/-- The frame port. -/
theorem witness_StepRuns_frame : (inside .xPulse []).seq = .xPulse ∧
    decode (.frame48 (frameWord (inside .xPulse []).cmd (inside .xPulse []).arg)) = .ok .cmd0 := by decide +kernel

/-- The status poll port, on the first attempt and on the last. -/
theorem witness_StepRuns_status : statusPolling (inside .xSend [0x01#8]) = true ∧
    decode (.statusPoll ((inside .xSend [0x01#8]).rxAt 0)) = .ok (.stValid 1#7) ∧
    statusPolling { inside .xPoll [0x01#8] with pollCnt := 1, status := 0xFF#8 } = true := by decide +kernel

/-- The token poll port. -/
theorem witness_StepRuns_token : tokenPolling (insideRead .bCheck [0xFE#8]) = true ∧
    decode (.tokenPoll ((insideRead .bCheck [0xFE#8]).rxAt 0)) = .ok .tkStart := by decide +kernel

/-- The response port, of one byte and of five. -/
theorem witness_StepRuns_response :
    (responseDue (inside .xPoll []) = true ∧ (inside .xPoll []).rlen = 1 ∧
      decode (.respR1 (inside .xPoll []).status) = .ok (.r1 0#7)) ∧
    (let s := { inside .xPoll [1#8, 2#8, 3#8, 4#8] with rlen := 5 }
     responseDue s = true ∧ s.rlen = 5 ∧
      decode (.respR3R7 ((((s.status ++ s.rxAt 0) ++ s.rxAt 1) ++ s.rxAt 2) ++ s.rxAt 3)) =
        .ok (.r3r7 0#7 1#8 2#8 3#8 4#8)) := by decide +kernel

/-- The result port. -/
theorem witness_StepRuns_result : dueClass (inside .xPayload []) = some .success ∧
    decode (.resultCode Result.success.code) = .ok .success := by decide +kernel

theorem witness_IdleWithoutRequestStays : State.reset.seq = .idle ∧ State.reset.host = [] := by decide

theorem witness_HostMayNotIssueXr1 : ∃ (s : State) (o : Operands) (rest : List Request),
    s.seq = .idle ∧ s.host = ⟨0b010#3, o⟩ :: rest :=
  ⟨{ ready 4 [] with host := [⟨0b010#3, Operands.zero⟩] }, Operands.zero, [], rfl, rfl⟩

theorem witness_ChecksumIsLinear : [0x40#8, 0x00#8].length = [0x01#8, 0xFF#8].length := by decide

theorem witness_SingleBitChange : (0 : Nat) < 8 ∧ 7 < 8 := by decide

theorem witness_Free : Free State.reset ∧ Free (ready 4 []) := ⟨⟨rfl, rfl⟩, ⟨rfl, rfl⟩⟩

theorem witness_FrameWord_injective : (frameBytes 17#6 1#32).toList = (frameBytes 17#6 1#32).toList := rfl

/-- XcmdSuccess: the first attempt with one byte, and the last with five. -/
theorem witness_XcmdSuccess :
    (Free (ready 1 [0x00#8]) ∧ (ready 1 [0x00#8]).ctxValid = true ∧ 0 < (ready 1 [0x00#8]).ctxTb ∧
      FirstValid (ready 1 [0x00#8]) 0 0) ∧
    (Free (ready 2 [0x80#8, 0x7F#8]) ∧ (ready 2 [0x80#8, 0x7F#8]).ctxValid = true ∧ 1 < (ready 2 [0x80#8, 0x7F#8]).ctxTb ∧
      FirstValid (ready 2 [0x80#8, 0x7F#8]) 0 1) := by
  unfold Free FirstValid AllSkip
  decide +kernel

/-- XcmdTimeout: an empty budget, and one of two. -/
theorem witness_XcmdTimeout :
    (Free (ready 0 []) ∧ (ready 0 []).ctxValid = true ∧ AllSkip (ready 0 []) 0 (ready 0 []).ctxTb) ∧
    (Free (ready 2 [0xFF#8, 0x80#8]) ∧ (ready 2 [0xFF#8, 0x80#8]).ctxValid = true ∧
      AllSkip (ready 2 [0xFF#8, 0x80#8]) 0 (ready 2 [0xFF#8, 0x80#8]).ctxTb ∧ (ready 2 [0xFF#8, 0x80#8]).ctxTb ≠ 0) := by
  unfold Free AllSkip
  decide +kernel

/-- XcmdAlwaysEnds and RdblkAlwaysEnds. -/
theorem witness_AlwaysEnds : Free (ready 4 []) ∧ (ready 4 []).ctxValid = true := ⟨⟨rfl, rfl⟩, rfl⟩

/-- RefusedRequests: a running block; an idle one without a context; an idle one with a context and lengths 0 and 6; an idle one
with the bus held. The last two are XR1's as well. -/
theorem witness_RefusedRequests : (inside .xPoll []).seq ≠ .idle ∧ (Free State.reset ∧ State.reset.ctxValid = false) ∧
    (Free (ready 4 []) ∧ (ready 4 []).ctxValid = true ∧ ((0 : Nat) = 0 ∨ 5 < 0) ∧ ((6 : Nat) = 0 ∨ 5 < 6)) ∧
    (inside .idle []).seq = .idle ∧ (inside .idle []).busHeld = true ∧
    State.reset.busHeld = false ∧ State.reset.ctxValid = false :=
  ⟨by decide, ⟨⟨rfl, rfl⟩, rfl⟩, ⟨⟨rfl, rfl⟩, rfl, .inl rfl, .inr (by decide)⟩, rfl, rfl, rfl, rfl⟩

/-- Xr1LeavesTheBusHeld, both clauses, the second at CTX_TB 1 and at CTX_TB 0. -/
theorem witness_Xr1LeavesTheBusHeld :
    ((ready 2 [0xFF#8, 0x00#8]).busHeld = false ∧ (ready 2 [0xFF#8, 0x00#8]).ctxValid = true ∧
      1 < (ready 2 [0xFF#8, 0x00#8]).ctxTb ∧ FirstValid (ready 2 [0xFF#8, 0x00#8]) 0 1) ∧
    ((ready 1 [0xFF#8]).busHeld = false ∧ (ready 1 [0xFF#8]).ctxValid = true ∧
      AllSkip (ready 1 [0xFF#8]) 0 (ready 1 [0xFF#8]).ctxTb) ∧
    ((ready 0 []).busHeld = false ∧ (ready 0 []).ctxValid = true ∧ (ready 0 []).ctxTb = 0 ∧
      AllSkip (ready 0 []) 0 (ready 0 []).ctxTb) := by
  unfold FirstValid AllSkip
  decide +kernel

/-- XcmdTransitions: X_ACQ from IDLE. -/
theorem witness_XcmdTransitions_start : ∃ (s : State) (o : Operands) (rest : List Request),
    Free s ∧ s.grain = .event ∧ s.ctxValid = true ∧ s.host = ⟨0b011#3, { o with cmd := 8#6, arg := 0x1AA#32, rlen := 5 }⟩ :: rest :=
  ⟨{ ready 4 [] with grain := .event, host := [⟨0b011#3, { Operands.zero with cmd := 8#6, arg := 0x1AA#32, rlen := 5 }⟩] },
    Operands.zero, [], ⟨rfl, rfl⟩, rfl, rfl, rfl⟩

/-- XcmdTransitions: the other seven rows, in order. -/
theorem witness_XcmdTransitions : (inside .xAcq []).seq = .xAcq ∧
    ((inside .xPulse []).seq = .xPulse ∧ (inside .xPulse []).ctxTb ≠ 0) ∧
    (let s := { inside .xPoll [0x01#8] with status := 0x80#8, pollCnt := 1 }
     s.ret ≠ .bCheck ∧ s.pollCnt ≠ 0 ∧ s.seq = .xPoll ∧ s.status.getLsbD 7 = true) ∧
    (let s := { inside .xPoll [0x01#8] with status := 0x80#8, pollCnt := 0 }
     s.ret = .idle ∧ s.busHeld = true ∧ s.pollCnt = 0 ∧ s.seq = .xPoll ∧ s.status.getLsbD 7 = true) ∧
    (let s := { inside .xPoll [0x01#8] with status := 0x7F#8, rlen := 2 }
     s.seq = .xPoll ∧ s.status.getLsbD 7 = false ∧ 1 < s.rlen ∧ s.rlen ≤ 5) ∧
    (let s := { inside .xPoll [] with status := 0x7F#8, rlen := 1 }
     s.seq = .xPoll ∧ s.status.getLsbD 7 = false ∧ s.rlen = 1 ∧ s.ret = .idle ∧ s.busHeld = true) ∧
    ((inside .xPayload []).seq = .xPayload ∧ (inside .xPayload []).ret = .idle ∧ (inside .xPayload []).busHeld = true) := by
  decide +kernel

/-- RdblkStatusCheck and RdblkEarlyEndings, both clauses: the second at the least status that is not 0x00. -/
theorem witness_RdblkStatusCheck :
    (Free (ready 1 [0xFF#8]) ∧ (ready 1 [0xFF#8]).ctxValid = true ∧ AllSkip (ready 1 [0xFF#8]) 0 (ready 1 [0xFF#8]).ctxTb) ∧
    (Free (ready 1 [0x01#8]) ∧ (ready 1 [0x01#8]).ctxValid = true ∧ 0 < (ready 1 [0x01#8]).ctxTb ∧
      FirstValid (ready 1 [0x01#8]) 0 0 ∧ (ready 1 [0x01#8]).rxAt 0 ≠ 0x00#8) := by
  unfold Free FirstValid AllSkip
  decide +kernel

theorem witness_RdblkTokenTimeout :
    let s := readySmall 1 [0x00#8, 0xFF#8, 0xFF#8, 0xFF#8]
    Free s ∧ s.ctxValid = true ∧ 0 < s.ctxTb ∧ FirstValid s 0 0 ∧ s.rxAt 0 = 0x00#8 ∧ s.cfg.tokenPolls ≠ 0 ∧
      AllFiller s (0 + 1) s.cfg.tokenPolls := by
  unfold Free FirstValid AllSkip AllFiller
  decide +kernel

/-- RdblkTokenEndings, both clauses: the start token on the last attempt, and an unexpected byte on the first. -/
theorem witness_RdblkTokenCheck :
    (let s := readySmall 1 [0x00#8, 0xFF#8, 0xFF#8, 0xFE#8]
     Free s ∧ s.ctxValid = true ∧ 0 < s.ctxTb ∧ FirstValid s 0 0 ∧ s.rxAt 0 = 0x00#8 ∧ 2 < s.cfg.tokenPolls ∧
      AllFiller s (0 + 1) 2 ∧ s.rxAt (0 + 1 + 2) ≠ 0xFF#8 ∧ s.rxAt (0 + 1 + 2) = 0xFE#8) ∧
    (let s := readySmall 1 [0x00#8, 0xFD#8]
     Free s ∧ s.ctxValid = true ∧ 0 < s.ctxTb ∧ FirstValid s 0 0 ∧ s.rxAt 0 = 0x00#8 ∧ 0 < s.cfg.tokenPolls ∧
      AllFiller s (0 + 1) 0 ∧ s.rxAt (0 + 1 + 0) ≠ 0xFF#8 ∧ s.rxAt (0 + 1 + 0) ≠ 0xFE#8) := by
  unfold Free FirstValid AllSkip AllFiller
  decide +kernel

/-- TokenCheckAtTheFoundByte, its three clauses: 0xFF, 0xFE, and the greatest other value. -/
theorem witness_TokenCheckAtTheFoundByte :
    (let s := { insideRead .bToken [0xFE#8] with token := 0xFF#8 }
     s.seq = .bToken ∧ s.ret = .bCheck ∧ s.busHeld = true ∧ s.token = 0xFF#8 ∧ s.pollCnt ≠ 0) ∧
    (let s := { insideRead .bToken [] with token := 0xFE#8 }
     s.seq = .bToken ∧ s.ret = .bCheck ∧ s.busHeld = true ∧ s.token = 0xFE#8 ∧ s.cfg.drainCrc = false) ∧
    (let s := { insideRead .bToken [] with token := 0xFD#8 }
     s.seq = .bToken ∧ s.ret = .bCheck ∧ s.busHeld = true ∧ s.token ≠ 0xFF#8 ∧ s.token ≠ 0xFE#8) := by decide +kernel

/-- InitEndsAsTheTable, with both kinds of ending: 3 attempts' worth of budget unused, and none reached. -/
theorem witness_InitEndsAsTheTable : Free (readySmall 0 []) ∧
    initEnding (readySmall 0 [0x01#8, 0x01#8, 0#8, 0#8, 0x01#8, 0xAA#8, 0x01#8, 0x00#8, 0x00#8, 0xC0#8, 0xFF#8, 0x80#8, 0#8]) 2 2 =
      ⟨.success, 13, 5, some 1⟩ ∧
    initEnding (readySmall 0 [0x05#8]) 2 2 = ⟨.timeout, 1, 1, none⟩ ∧
    handshakeFrames ⟨.timeout, 1, 1, none⟩ = [[0x40#8, 0#8, 0#8, 0#8, 0#8, 0x95#8]] ∧
    (handshakeFrames ⟨.success, 13, 5, some 1⟩).length = 5 :=
  ⟨⟨rfl, rfl⟩, by decide +kernel, by decide +kernel, by decide +kernel, by decide +kernel⟩

/-- InitIsBounded, InitConfiguresBootstrapThenOperating and InitFrame: an INIT that succeeds and one that does not. -/
theorem witness_Init :
    (∃ t, exec (.init ⟨1⟩ ⟨2⟩ 2) (readySmall 0
      [0x01#8, 0x01#8, 0#8, 0#8, 0x01#8, 0xAA#8, 0x01#8, 0x00#8, 0x00#8, 0xC0#8, 0xFF#8, 0x80#8, 0#8]) = .next t ∧
      decide (t.result = .success) = true) ∧
    (∃ t, exec (.init ⟨1⟩ ⟨2⟩ 2) (readySmall 0 [0x05#8]) = .next t ∧ decide (t.result ≠ .success) = true) :=
  ⟨next_of_endsIn (by decide +kernel), next_of_endsIn (by decide +kernel)⟩

/-- InitIsBounded's first part: a negotiation that does not end ready. -/
theorem witness_InitIsBounded : (negotiate 1 (ready 1 [0x01#8, 0x01#8])).1 = false := by decide +kernel

/-- InitLeavesTheLastExchange, both clauses: an interface check that fails on its echo, and a reset status that is not 0x01. -/
theorem witness_InitLeavesTheLastExchange :
    (let s := readySmall 0 [0x01#8, 0x01#8, 0#8, 0#8, 0x01#8, 0xAB#8]
     endsOnFiveBytes (initEnding s 2 s.cfg.negAttempts) = true ∧
      ∃ t, exec (.init ⟨1⟩ ⟨2⟩ 2) s = .next t ∧ decide (t.resp[4] = 0xAB#8) = true) ∧
    (let s := readySmall 0 [0x05#8]
     endsOnFiveBytes (initEnding s 2 s.cfg.negAttempts) = false ∧
      ∃ t, exec (.init ⟨1⟩ ⟨2⟩ 2) s = .next t ∧ decide (t.status = 0x05#8) = true) :=
  ⟨⟨by decide +kernel, next_of_endsIn (by decide +kernel)⟩, ⟨by decide +kernel, next_of_endsIn (by decide +kernel)⟩⟩

/-- InitPreamble, both clauses. -/
theorem witness_InitPreamble :
    (∃ t, exec (.init ⟨1⟩ ⟨2⟩ 2) (readySmall 0 [0x05#8]) = .next t ∧
      decide ((readySmall 0 [0x05#8]).cfg.preambleClocks = 0) = true) ∧
    (let s := { State.reset with rx := [0x05#8], cfg := { Config.defaultParams with preambleClocks := 1 } }
     ∃ t, exec (.init ⟨1⟩ ⟨2⟩ 2) s = .next t ∧ decide (s.cfg.preambleClocks ≠ 0) = true) :=
  ⟨next_of_endsIn (by decide +kernel), next_of_endsIn (by decide +kernel)⟩

/-- FrameRowsAreSent and ReadFrameCarriesTheAddress: the generic frame, and CMD17's checksum at address 0 (0x55). -/
theorem witness_FrameRowsAreSent : (inside .xPulse []).seq = .xPulse ∧ (inside .xPulse []).ctxTb ≠ 0 ∧
    (6#7 : BitVec 7) = (frameCheck 13#6 0#32).extractLsb' 1 7 ∧
    (0x2A#7 : BitVec 7) = (frameCheck 17#6 0#32).extractLsb' 1 7 := by decide +kernel

/-- StatusPollRows: an exchange's poll and a block read's. -/
theorem witness_StatusPollRows :
    (statusPolling (inside .xSend []) = true ∧ (inside .xSend []).ret ≠ .bCheck) ∧
    (statusPolling (insideRead .xSend []) = true ∧ (insideRead .xSend []).ret = .bCheck) := by decide +kernel

theorem witness_TokenPollRows : tokenPolling (insideRead .bCheck []) = true ∧
    tokenPolling { insideRead .bToken [] with token := 0xFF#8, pollCnt := 1 } = true := by decide +kernel

/-- ResponseRows, both clauses. -/
theorem witness_ResponseRows :
    (let s := { inside .xPoll [] with status := 0x7F#8 }
     s.seq = .xPoll ∧ s.status.getLsbD 7 = false ∧ s.rlen = 1 ∧ s.busHeld = true ∧ s.ret = .idle) ∧
    (let s := { inside .xPoll [] with rlen := 5 }
     s.seq = .xPoll ∧ s.status.getLsbD 7 = false ∧ s.rlen = 5) := by decide +kernel

/-- ResultRowsEndTheOperation: a state for each of the four classes. -/
theorem witness_ResultRows :
    (dueClass (inside .xPayload []) = some .success ∧ handshakeReturn (inside .xPayload []).ret = false) ∧
    (let s := { inside .xSend [] with pollCnt := 0 }
     dueClass s = some .timeout ∧ handshakeReturn s.ret = false) ∧
    (let s := { readySmall 4 [] with seq := .iS2 }
     dueClass s = some .notSupported ∧ s.busHeld = false) ∧
    (let s := { insideRead .bCheck [] with status := 0x01#8 }
     dueClass s = some .badResponse ∧ handshakeReturn s.ret = false) := by decide +kernel

/-- ExchangeReturnsIntoInit: a success and a timeout through the result rows, and a one-byte response through R1. -/
theorem witness_ExchangeReturnsIntoInit :
    (let s := { inside .xPayload [] with ret := .iS2 }
     s.busHeld = true ∧ handshakeReturn s.ret = true ∧ dueClass s = some .success) ∧
    (let s := { inside .xSend [] with ret := .iS1, pollCnt := 0 }
     s.busHeld = true ∧ handshakeReturn s.ret = true ∧ dueClass s = some .timeout) ∧
    (let s := { inside .xPoll [] with ret := .iS3B, status := 0x00#8 }
     s.busHeld = true ∧ handshakeReturn s.ret = true ∧ s.seq = .xPoll ∧ s.status.getLsbD 7 = false ∧ s.rlen = 1) := by
  decide +kernel

/-- ChecksumErrorIsNeverProduced: a state that holds the class already, and an instruction that leaves RESULT alone. -/
theorem witness_ChecksumErrorIsNeverProduced :
    (∃ t, exec (.frame 0#6 0#32) { State.reset with result := .checksumError } = .next t ∧
      decide (t.result = .checksumError) = true) ∧
    (∃ t, step { State.reset with result := .checksumError } = .next t ∧ decide (t.result = .checksumError) = true) :=
  ⟨next_of_endsIn (by decide +kernel), next_of_endsIn (by decide +kernel)⟩

/-- OutOfSequenceIsRefused: a state that meets the hypothesis of every clause, a right and a wrong checksum, and a response
port in force for the other length. -/
theorem witness_OutOfSequenceIsRefused : State.reset.seq ≠ .xPulse ∧ statusPolling State.reset = false ∧
    tokenPolling State.reset = false ∧ responseDue State.reset = false ∧ (∀ r, dueClass State.reset ≠ some r) ∧
    (6#7 : BitVec 7) = (frameCheck 13#6 0#32).extractLsb' 1 7 ∧ (7#7 : BitVec 7) ≠ (frameCheck 13#6 0#32).extractLsb' 1 7 ∧
    (0x2A#7 : BitVec 7) = (frameCheck 17#6 0#32).extractLsb' 1 7 ∧ (0x2B#7 : BitVec 7) ≠ (frameCheck 17#6 0#32).extractLsb' 1 7 ∧
    (inside .xPoll []).rlen ≠ 5 ∧ { inside .xPoll [] with rlen := 2 }.rlen ≠ 1 :=
  ⟨by decide, rfl, rfl, rfl, fun _ => by simp [dueClass, State.reset], by decide +kernel, by decide +kernel, by decide +kernel,
    by decide +kernel, by decide, by decide⟩

/-- A host's XCMD in the middle of its status poll, with the history that brought it there. -/
def polling : State := { inside .xPoll [0x01#8] with
  status := 0xFF#8, pollCnt := 3, grain := .event,
  txRev := [.rx 0xFF#8, .send [0x40#8, 0#8, 0#8, 0#8, 0#8, 0x95#8], .idle 1, .acquire] }

/-- StepKeepsInvariant, SettlingPulseBeforeEveryFrame, StepKeepsCountersBounded, EventGrainMakesOneEvent,
ReceivedBytesAreTheNextOfRx: a step of a state
that meets both invariants in the middle of a transaction. -/
theorem witness_StepKeepsInvariant : Inv polling ∧ CountersBounded polling ∧ polling.grain = .event ∧
    ∃ t, step polling = .next t ∧ decide (t.status = 0x01#8) = true :=
  ⟨by decide +kernel, by decide +kernel, rfl, next_of_endsIn (by decide +kernel)⟩

theorem witness_ExecKeepsInvariant : Inv polling ∧
    ∃ t, exec (.stValid 1#7) polling = .next t ∧ decide (t.seq = .xPoll) = true :=
  ⟨by decide +kernel, next_of_endsIn (by decide +kernel)⟩

theorem witness_EventGrainRunsTheOperation : ∃ (s t : State) (r : Request) (rest : List Request) (i : Instr),
    Quiescent s ∧ s.grain = .event ∧ s.host = r :: rest ∧ decode (.op r.code r.opr) = .ok i ∧ hostMayIssue i = true ∧
    exec i { s with host := rest, op := (Op.ofCode? r.code).getD s.op } = .next t := by
  obtain ⟨t, ht, -⟩ := next_of_endsIn (p := fun t => decide (t.result = .success))
    (o := exec (.xcmd 0#6 0#32 1) { ready 4 [0x01#8] with grain := .event, op := .xcmd }) (by decide +kernel)
  exact ⟨{ ready 4 [0x01#8] with grain := .event, host := [⟨0b011#3, Operands.zero⟩] }, t, _, [], .xcmd 0#6 0#32 1,
    ⟨rfl, rfl, rfl, rfl⟩, rfl, rfl, by decide, rfl, ht⟩

/-- BusReleasedOnEveryPath: an XR1, and a host's XCMD that times out. -/
theorem witness_BusReleasedOnEveryPath :
    (∃ t, exec (.xr1 0#6 0#32) (ready 1 [0x01#8]) = .next t ∧ decide (t.busHeld = true) = true) ∧
    Free (ready 1 [0xFF#8]) ∧
    (∃ t, exec (.xcmd 0#6 0#32 1) (ready 1 [0xFF#8]) = .next t ∧ decide (t.result = .timeout) = true) :=
  ⟨next_of_endsIn (by decide +kernel), ⟨rfl, rfl⟩, next_of_endsIn (by decide +kernel)⟩

/-- OnlyInitWritesTheContext, EnvironmentIsNotRewritten: an instruction that is no INIT, and a step with a context. -/
theorem witness_OnlyInitWritesTheContext : (∀ b o n, Instr.rdblk 0#32 ≠ .init b o n) ∧
    (∃ t, exec (.rdblk 0#32) (ready 4 [0x01#8]) = .next t ∧ decide (t.result = .badResponse) = true) ∧
    (∃ t, step (ready 4 []) = .next t ∧ (ready 4 []).ctxValid = true) :=
  ⟨by simp, next_of_endsIn (by decide +kernel),
    ⟨_, rfl, rfl⟩⟩

/-- OnlyASuccessfulReadWritesData: the block read of `test_rdblk_block` changes DATA. -/
theorem witness_OnlyASuccessfulReadWritesData : ∃ s t : State, exec (.rdblk 0#32) s = .next t ∧ t.data ≠ s.data := by
  obtain ⟨t, ht, h⟩ := next_of_endsIn test_rdblk_block
  refine ⟨_, t, ht, fun hd => ?_⟩
  have h0 : ∀ rx, (ready 4 rx).data = Vector.replicate 512 0#8 := fun _ => rfl
  rw [hd, h0] at h
  simp at h

/-- ResetEffect: an idle state and one that is not. -/
theorem witness_ResetEffect : (ready 4 [0x01#8]).seq = .idle ∧ polling.seq ≠ .idle := by decide

end Sys2Proof.Tests
end

