-- ==== Sys2Proof/Proofs/Memory.lean ====
section
/-! PROOFS. The frame in FRAME_BUF (20_memory.md R50; 30_encoding.md R87 to R89): what FRAME does, the value of each of
the six bytes, and the clear bit 0 of a checksum. -/

namespace Sys2Proof.Machine

/-- FRAME loads its operands and builds the frame, whatever the state (R140). -/
theorem exec_frame (c : BitVec 6) (a : BitVec 32) (s : State) :
    exec (.frame c a) s = .next (buildFrame c a (loadCommand c a s)) := rfl

/-- An accumulator with bit 0 clear keeps it clear through a message (R127 item 1). -/
theorem crcBytes_bit0 (m : List Byte) (acc : Byte) (h : acc.getLsbD 0 = false) : (crcBytes acc m).getLsbD 0 = false := by
  induction m generalizing acc with
  | nil => exact h
  | cons b m ih => exact ih (crcByte acc b) (crcByte_bit0 acc b)

/-- A checksum starts from CRC_INIT, whose bit 0 is clear (R124, R127 item 1). -/
theorem crc7_bit0 (m : List Byte) : (crc7 m).getLsbD 0 = false := crcBytes_bit0 m crcInit (by decide)

/-- Bit 7 of byte 0 is clear: the command index is too narrow to reach it (R87). -/
theorem frameByte0_bit7 (c : BitVec 6) : (frameByte0 c).getLsbD 7 = false := by
  have hs : frameStart.getLsbD 7 = false := by decide
  have hc : c.getLsbD 7 = false := BitVec.getLsbD_of_ge c 7 (by decide)
  rw [frameByte0, BitVec.getLsbD_or, hs, BitVec.getLsbD_setWidth, hc, Bool.and_false, Bool.or_false]

/-- Bit 6 of byte 0 is set by the constant, whatever the command index (R87). -/
theorem frameByte0_bit6 (c : BitVec 6) : (frameByte0 c).getLsbD 6 = true := by
  have hs : frameStart.getLsbD 6 = true := by decide
  rw [frameByte0, BitVec.getLsbD_or, hs, Bool.true_or]

@[simp] theorem frameBytes_get0 (c : BitVec 6) (a : BitVec 32) : (frameBytes c a)[0] = frameByte0 c := rfl
@[simp] theorem frameBytes_get1 (c : BitVec 6) (a : BitVec 32) : (frameBytes c a)[1] = argByte3 a := rfl
@[simp] theorem frameBytes_get2 (c : BitVec 6) (a : BitVec 32) : (frameBytes c a)[2] = argByte2 a := rfl
@[simp] theorem frameBytes_get3 (c : BitVec 6) (a : BitVec 32) : (frameBytes c a)[3] = argByte1 a := rfl
@[simp] theorem frameBytes_get4 (c : BitVec 6) (a : BitVec 32) : (frameBytes c a)[4] = argByte0 a := rfl
@[simp] theorem frameBytes_get5 (c : BitVec 6) (a : BitVec 32) : (frameBytes c a)[5] = frameByte5 c a := rfl

/-- Settles O16: FRAME_BUF holds `frameBytes`, read byte by byte; only the two fixed bits of byte 0 and the clear bit 0 of
the checksum are more than the layout. -/
theorem frameBuildsSixBytes : Obligations.FrameBuildsSixBytes := by
  intro s c a
  refine ⟨_, exec_frame c a s, ?_⟩
  simp only [buildFrame_frameBuf, frameBytes_get0, frameBytes_get1, frameBytes_get2, frameBytes_get3, frameBytes_get4,
    frameBytes_get5]
  exact ⟨rfl, frameByte0_bit7 c, frameByte0_bit6 c, rfl, rfl, rfl, rfl, rfl, crc7_bit0 (frameHead c a)⟩

end Sys2Proof.Machine
end

