-- ==== Sys2Proof/Proofs/Crc7.lean ====
section
/-! PROOFS. The generator (40_crc7.md R121 and R122): the second form of the bit step, the byte step as an iterate, and the
checksum of the reference frame. -/

namespace Sys2Proof.Machine

/-- The polynomial aligned with the bit shifted out, as a number (R121). -/
theorem crcTap_eq : crcTap = 0x12#8 := by decide

/-- R121's other order: POLY enters before the shift. The shift distributes over the exclusive-or and makes the tap of POLY. -/
theorem crcStep_eq_xor_poly_shift (acc : Byte) :
    crcStep acc = (acc ^^^ (if acc.getLsbD 7 then poly else 0#8)) <<< 1 := by
  unfold crcStep
  split
  case isTrue => rw [BitVec.shiftLeft_xor_distrib, crcTap]
  case isFalse => rw [BitVec.xor_zero]

/-- The model's own recursion is the library's iterate (R122). -/
theorem crcSteps_eq_iterate (n : Nat) (acc : Byte) : crcSteps n acc = crcStep^[n] acc := by
  induction n generalizing acc with
  | zero => rfl
  | succ n ih => exact ih (crcStep acc)

/-- The checksum of the frame of command 0 with argument 0 (R121, R129): the value of the reading that aligns the polynomial. -/
theorem crc7_referenceFrame : crc7 [0x40#8, 0x00#8, 0x00#8, 0x00#8, 0x00#8] = 0x94#8 := by decide +kernel

/-- Settles O9: the first form is the definition with its tap as a number, the second the shift's distribution over
exclusive-or, and the byte step the iterate. -/
theorem crcStepAndByteRules : Obligations.CrcStepAndByteRules := by
  refine ⟨fun acc => ⟨?_, crcStep_eq_xor_poly_shift acc⟩, fun acc b => crcSteps_eq_iterate 8 (acc ^^^ b), crcTap_eq,
    crc7_referenceFrame⟩
  rw [crcStep, crcTap_eq]

end Sys2Proof.Machine
end

