-- ==== Sys2Proof/Proofs/Exchange.lean ====
section
/-! PROOFS. The status byte (42_exchange.md R150): the status test and the status poll decoder (30_encoding.md R92) both turn
on bit 7 alone. -/

namespace Sys2Proof.Machine

/-- The status test looks at bit 7 only (R150). -/
theorem validStatus_iff (b : Byte) : validStatus b = true ↔ b.getLsbD 7 = false := by
  rw [validStatus, Bool.not_eq_true']

/-- A byte is read as ST_VALID, with its low seven bits, exactly when bit 7 is clear (R92). -/
theorem decodeStatus_eq_stValid_iff (b : Byte) : decodeStatus b = .stValid (b.extractLsb' 0 7) ↔ b.getLsbD 7 = false := by
  rw [decodeStatus]
  cases b.getLsbD 7 with
  | false => simp
  | true => simp

/-- A byte is read as ST_SKIP, with its low seven bits, exactly when bit 7 is set (R92). -/
theorem decodeStatus_eq_stSkip_iff (b : Byte) : decodeStatus b = .stSkip (b.extractLsb' 0 7) ↔ b.getLsbD 7 = true := by
  rw [decodeStatus]
  cases b.getLsbD 7 with
  | false => simp
  | true => simp

/-- The status poll port decodes every byte, by `decodeStatus`: it has no error. -/
theorem decode_statusPoll_eq_ok_iff (b : Byte) (i : Instr) : decode (.statusPoll b) = .ok i ↔ decodeStatus b = i := by
  rw [decode, Except.ok.injEq]

/-- Settles O4: decoder and status test split the bytes by bit 7, and the seven bytes R150 names are computed. -/
theorem validStatusByteIsBitSevenClear : Obligations.ValidStatusByteIsBitSevenClear := by
  refine ⟨fun b => ⟨?valid, ?skip, validStatus_iff b⟩, by decide, by decide⟩
  case valid => rw [decode_statusPoll_eq_ok_iff, decodeStatus_eq_stValid_iff]
  case skip => rw [decode_statusPoll_eq_ok_iff, decodeStatus_eq_stSkip_iff]

end Sys2Proof.Machine
end

/-! PROOFS. The transport's speed through an INIT (43_handshake.md R171 and R181). An exchange appends one whole transaction
to TX, whatever its outcome; so every step of INIT up to the last keeps the divisor configured at the start, and a successful
INIT alone configures the operating divisor, as its last event. -/

namespace Sys2Proof.Machine

open Spec

/-! ### TX in the spec's order -/

@[simp] theorem emit_tx (e : Event) (s : State) : (emit e s).tx = s.tx ++ [e] := by simp [State.tx]

@[simp] theorem configure_tx (d : Div) (s : State) : (configure d s).tx = s.tx ++ [.cfg d .msbFirst .mode0] := emit_tx _ s

/-- The end of an INIT or of a block read makes no event where the bus is free (R209 (1)). -/
theorem finish_tx_of_busFree (r : Result) {s : State} (h : s.busHeld = false) : (finish r s).tx = s.tx := by
  simp [finish_eq, State.tx, h]

@[simp] theorem finish_ctxDiv (r : Result) (s : State) : (finish r s).ctxDiv = s.ctxDiv := by rw [finish_eq]

/-- The end of an exchange that holds the bus makes one event, the release (R209 (1)). -/
theorem endExchange_tx_of_busHeld (r : Result) {s : State} (h : s.busHeld = true) :
    (endExchange r s).tx = s.tx ++ [.release] := by
  simp [endExchange_eq, State.tx, h]

@[simp] theorem endExchange_ctxDiv (r : Result) (s : State) : (endExchange r s).ctxDiv = s.ctxDiv := by rw [endExchange_eq]

/-! ### The status poll and XR1 -/

@[simp] theorem afterStatusBytes_busHeld (n : Nat) (s : State) : (afterStatusBytes n s).busHeld = s.busHeld := by
  cases n with
  | zero => rfl
  | succ n => rw [afterStatusBytes_succ]

@[simp] theorem afterStatusBytes_ctxDiv (n : Nat) (s : State) : (afterStatusBytes n s).ctxDiv = s.ctxDiv := by
  cases n with
  | zero => rfl
  | succ n => rw [afterStatusBytes_succ]

/-- A status poll's events are its bytes, one reception each. -/
@[simp] theorem afterStatusBytes_tx (n : Nat) (s : State) :
    (afterStatusBytes n s).tx = s.tx ++ (s.rxTake n).map Event.rx := by
  cases n with
  | zero => simp [afterStatusBytes, State.rxTake]
  | succ n => simp [afterStatusBytes_succ, State.tx]

/-- However a status poll ends, it has made some number of attempts. -/
theorem pollLoop_eq_afterStatusBytes (n : Nat) (s : State) : ∃ k, pollLoop n s = afterStatusBytes k s := by
  rcases firstValid_or_none n s with ⟨k, hk, hskip, hvalid⟩ | hskip
  · exact ⟨k + 1, pollLoop_success n k s hk hskip hvalid⟩
  · exact ⟨n, pollLoop_timeout n s hskip⟩

/-- The framer's bytes are those of R140. -/
theorem frameBytes_eq_frame (c : BitVec 6) (a : BitVec 32) : frameBytes c a = frame c a := rfl

/-- What XR1 does before its poll: acquire, idle clock, frame (R152). -/
theorem xr1_begin (c : BitVec 6) (a : BitVec 32) (s : State) :
    (sendFrame c a (pulse (acquireBus s))).tx = s.tx ++ [.acquire, .idle 1, .send (frame c a).toList] ∧
    (sendFrame c a (pulse (acquireBus s))).busHeld = true ∧
    (sendFrame c a (pulse (acquireBus s))).ctxDiv = s.ctxDiv := by
  rw [sendFrame, startPoll_eq]
  refine ⟨?_, rfl, rfl⟩
  simp [State.tx, frameBytes_eq_frame]

/-- XR1 holds the bus at its end, keeps the operating divisor, and appends an unreleased transaction to TX (R152). -/
theorem xr1_spec (c : BitVec 6) (a : BitVec 32) (s : State) :
    (∃ bs : List Byte,
      (xr1 c a s).tx = s.tx ++ [.acquire, .idle 1, .send (frame c a).toList] ++ bs.map Event.rx) ∧
    (xr1 c a s).busHeld = true ∧ (xr1 c a s).ctxDiv = s.ctxDiv := by
  obtain ⟨htx, hheld, hdiv⟩ := xr1_begin c a s
  obtain ⟨k, hk⟩ := pollLoop_eq_afterStatusBytes _ (sendFrame c a (pulse (acquireBus s)))
  rw [xr1, hk, afterStatusBytes_tx, afterStatusBytes_busHeld, afterStatusBytes_ctxDiv, htx]
  exact ⟨⟨_, rfl⟩, hheld, hdiv⟩

/-! ### An exchange is one transaction -/

/-- The events by which bytes are received. -/
def isReception : Event → Bool
  | .rx _ | .rxn _ => true
  | .cfg _ _ _ | .acquire | .release | .idle _ | .send _ => false

/-- Every exchange ends by `endExchange`, from a state that differs from XR1's, as to TX, the bus and the divisor, only by the
payload received (R155). -/
theorem xcmdBody_eq_endExchange (c : BitVec 6) (a : BitVec 32) (n : Nat) (s : State) :
    ∃ (r : Result) (u : State) (payload : List Event), xcmdBody c a n s = endExchange r u ∧
      (∀ e ∈ payload, isReception e = true) ∧ u.tx = (xr1 c a s).tx ++ payload ∧
      u.busHeld = (xr1 c a s).busHeld ∧ u.ctxDiv = (xr1 c a s).ctxDiv := by
  unfold xcmdBody
  dsimp only
  split
  case isTrue => exact ⟨.timeout, drawResp _, [], rfl, by simp, by simp [drawResp, State.tx], rfl, rfl⟩
  case isFalse =>
    split
    case isTrue => exact ⟨.success, storeStatus _, [], rfl, by simp, by simp [storeStatus, State.tx], rfl, rfl⟩
    case isFalse =>
      exact ⟨.success, takePayload n _, [.rxn _], rfl, by simp [isReception], emit_tx _ _, rfl, rfl⟩

/-- An exchange appends one whole transaction to TX, timed out or not, and keeps the operating divisor (R155, R57). -/
theorem xcmdCall_spec (ret : Seq) (c : BitVec 6) (a : BitVec 32) (n : Nat) (s : State) :
    (∃ rs, (∀ e ∈ rs, isReception e = true) ∧ (xcmdCall ret c a n s).tx = s.tx ++ transaction c a rs) ∧
    (xcmdCall ret c a n s).busHeld = false ∧ (xcmdCall ret c a n s).ctxDiv = s.ctxDiv := by
  obtain ⟨⟨bs, htx⟩, hheld, hdiv⟩ := xr1_spec c a (loadExchange ret c a n s)
  obtain ⟨r, u, payload, hend, hpayload, hutx, huheld, hudiv⟩ := xcmdBody_eq_endExchange c a n (loadExchange ret c a n s)
  rw [xcmdCall, hend, endExchange_busHeld, endExchange_ctxDiv, endExchange_tx_of_busHeld r (huheld.trans hheld)]
  refine ⟨⟨bs.map Event.rx ++ payload, ?receptions, ?tx⟩, rfl, hudiv.trans hdiv⟩
  case receptions =>
    intro e he
    rcases List.mem_append.mp he with he | he
    · obtain ⟨b, -, rfl⟩ := List.mem_map.mp he
      rfl
    · exact hpayload e he
  case tx =>
    have hload : (loadExchange ret c a n s).tx = s.tx := rfl
    simp only [hutx, htx, hload, transaction, List.append_assoc]

/-! ### What a transaction counts for -/

theorem acquires_append (es fs : List Event) : acquires (es ++ fs) = acquires es + acquires fs := List.countP_append

theorem releases_append (es fs : List Event) : releases (es ++ fs) = releases es + releases fs := List.countP_append

theorem configurations_append (es fs : List Event) : configurations (es ++ fs) = configurations es ++ configurations fs :=
  List.filter_append ..

theorem acquires_receptions {rs : List Event} (h : ∀ e ∈ rs, isReception e = true) : acquires rs = 0 := by
  refine List.countP_eq_zero.mpr fun e he hacquire => ?_
  obtain rfl := of_decide_eq_true hacquire
  exact absurd (h _ he) (by decide)

theorem releases_receptions {rs : List Event} (h : ∀ e ∈ rs, isReception e = true) : releases rs = 0 := by
  refine List.countP_eq_zero.mpr fun e he hrelease => ?_
  obtain rfl := of_decide_eq_true hrelease
  exact absurd (h _ he) (by decide)

theorem configurations_receptions {rs : List Event} (h : ∀ e ∈ rs, isReception e = true) : configurations rs = [] := by
  refine List.filter_eq_nil_iff.mpr fun e he => ?_
  cases e with
  | cfg _ _ _ => exact absurd (h _ he) (by simp [isReception])
  | _ => simp

/-- A transaction is acquired once, released once, and configures nothing. -/
theorem transaction_counts (c : BitVec 6) (a : BitVec 32) {rs : List Event} (h : ∀ e ∈ rs, isReception e = true) :
    acquires (transaction c a rs) = 1 ∧ releases (transaction c a rs) = 1 ∧ configurations (transaction c a rs) = [] := by
  simp only [transaction, acquires_append, releases_append, configurations_append, acquires_receptions h,
    releases_receptions h, configurations_receptions h]
  exact ⟨rfl, rfl, rfl⟩

/-! ### The steps of INIT up to the last keep the divisor -/

/-- From `s` to `t` every transaction begun was ended, the transport was not configured, and CTX_DIV was kept; the bus is
free at `t`. -/
structure KeepsDivisor (s t : State) : Prop where
  events : ∃ es, t.tx = s.tx ++ es ∧ acquires es = releases es ∧ configurations es = []
  busHeld : t.busHeld = false
  ctxDiv : t.ctxDiv = s.ctxDiv

namespace KeepsDivisor

variable {s t : State}

theorem refl (h : s.busHeld = false) : KeepsDivisor s s := ⟨⟨[], by simp, rfl, rfl⟩, h, rfl⟩

/-- The preamble is idle clocks outside any transaction (D26). -/
theorem preamble (h : KeepsDivisor s t) : KeepsDivisor s (preamble t) := by
  obtain ⟨es, htx, hbalance, hcfg⟩ := h.events
  refine ⟨⟨es ++ [.idle t.cfg.preambleClocks], ?_, ?_, ?_⟩, h.busHeld, h.ctxDiv⟩
  · rw [Machine.preamble, emit_tx, ← List.append_assoc, ← htx]
    rfl
  · rw [acquires_append, releases_append, hbalance]
    rfl
  · rw [configurations_append, hcfg]
    rfl

theorem xcmdCall (h : KeepsDivisor s t) (ret : Seq) (c : BitVec 6) (a : BitVec 32) (n : Nat) :
    KeepsDivisor s (xcmdCall ret c a n t) := by
  obtain ⟨es, htx, hbalance, hcfg⟩ := h.events
  obtain ⟨⟨rs, hrs, hcall⟩, hfree, hdiv⟩ := xcmdCall_spec ret c a n t
  obtain ⟨hacquires, hreleases, hnone⟩ := transaction_counts c a hrs
  refine ⟨⟨es ++ transaction c a rs, ?_, ?_, ?_⟩, hfree, hdiv.trans h.ctxDiv⟩
  · rw [hcall, htx, List.append_assoc]
  · rw [acquires_append, releases_append, hbalance, hacquires, hreleases]
  · rw [configurations_append, hcfg, hnone, List.append_nil]

/-- An ending with the bus free makes no event. -/
theorem finish (h : KeepsDivisor s t) (r : Result) : KeepsDivisor s (finish r t) := by
  refine ⟨?_, finish_busHeld r t, (finish_ctxDiv r t).trans h.ctxDiv⟩
  rw [finish_tx_of_busFree r h.busHeld]
  exact h.events

/-- ATT_CNT is no part of what is kept. -/
theorem setAttCnt (h : KeepsDivisor s t) (n : Nat) : KeepsDivisor s { t with attCnt := n } := ⟨h.events, h.busHeld, h.ctxDiv⟩

theorem attempt (h : KeepsDivisor s t) : KeepsDivisor s (attempt t) := by
  have hspent : KeepsDivisor s { t with attCnt := t.attCnt - 1 } := h.setAttCnt _
  have hprefix : KeepsDivisor s (callPrefix { t with attCnt := t.attCnt - 1 }) := hspent.xcmdCall .iS3A 55#6 zeroArg 1
  exact hprefix.xcmdCall .iS3B 41#6 hcsArg 1

/-- Step 3 keeps the divisor, however many attempts it makes. -/
theorem negotiate (h : KeepsDivisor s t) (n : Nat) : KeepsDivisor s (negotiate n t).2 := by
  induction n generalizing t with
  | zero => exact h
  | succ n ih =>
    have hattempt : KeepsDivisor s (Machine.attempt t) := h.attempt
    by_cases hready : cardReady (Machine.attempt t) = true
    · simpa only [Machine.negotiate, if_pos hready] using hattempt
    · simpa only [Machine.negotiate, if_neg hready] using ih hattempt

end KeepsDivisor

/-! ### A test of INIT that fails names an error class -/

theorem exchangeFailed_ne_success (s : State) : exchangeFailed s ≠ some .success := by
  unfold exchangeFailed
  split
  case isTrue => simp
  case isFalse hfailed => exact fun h => hfailed (Option.some.inj h)

theorem resetTest_ne_success (s : State) : resetTest s ≠ some .success := by
  unfold resetTest
  split
  case h_1 hfailed => exact hfailed ▸ exchangeFailed_ne_success s
  case h_2 => split <;> simp

theorem interfaceTest_ne_success (s : State) : interfaceTest s ≠ some .success := by
  unfold interfaceTest
  split
  case h_1 hfailed => exact hfailed ▸ exchangeFailed_ne_success s
  case h_2 => split <;> simp

theorem capacityTest_ne_success (s : State) : capacityTest s ≠ some .success := by
  unfold capacityTest
  split
  case h_1 hfailed => exact hfailed ▸ exchangeFailed_ne_success s
  case h_2 => split_ifs <;> simp

/-! ### The last step of INIT -/

/-- How INIT ends, after the divisor was configured at `s`: with an error class and the divisor kept, or with SUCCESS and the
operating divisor configured last (R181). -/
def SpeedsUpOnSuccess (s t : State) : Prop :=
  (t.result ≠ .success ∧ KeepsDivisor s t) ∨
  (∃ u, KeepsDivisor s u ∧ t = finish .success (configure s.ctxDiv u))

theorem SpeedsUpOnSuccess.of_failure {s u : State} {r : Result} (hr : r ≠ .success) (h : KeepsDivisor s u) :
    SpeedsUpOnSuccess s (finish r u) := .inl ⟨by rwa [finish_result], h.finish r⟩

theorem initFinish_speedsUpOnSuccess {s t : State} (h : KeepsDivisor s t) : SpeedsUpOnSuccess s (initFinish t) := by
  have hcall : KeepsDivisor s (callCapacity t) := h.xcmdCall .iS4 58#6 zeroArg 5
  unfold initFinish
  dsimp only
  split
  case h_1 r htest => exact .of_failure (fun hr => capacityTest_ne_success _ (hr ▸ htest)) hcall
  case h_2 => exact .inr ⟨callCapacity t, hcall, by rw [hcall.ctxDiv]⟩

theorem initNegotiate_speedsUpOnSuccess {s t : State} (h : KeepsDivisor s t) : SpeedsUpOnSuccess s (initNegotiate t) := by
  have hnegotiate : KeepsDivisor s (negotiate t.cfg.negAttempts (loadAttempts t)).2 := (h.setAttCnt _).negotiate _
  unfold initNegotiate
  dsimp only
  split
  case isTrue => exact initFinish_speedsUpOnSuccess hnegotiate
  case isFalse => exact .of_failure (by decide) hnegotiate

theorem initInterface_speedsUpOnSuccess {s t : State} (h : KeepsDivisor s t) : SpeedsUpOnSuccess s (initInterface t) := by
  have hcall : KeepsDivisor s (callInterface t) := h.xcmdCall .iS2 8#6 checkArg 5
  unfold initInterface
  dsimp only
  split
  case h_1 r htest => exact .of_failure (fun hr => interfaceTest_ne_success _ (hr ▸ htest)) hcall
  case h_2 => exact initNegotiate_speedsUpOnSuccess hcall

theorem initReset_speedsUpOnSuccess {s t : State} (h : KeepsDivisor s t) : SpeedsUpOnSuccess s (initReset t) := by
  have hcall : KeepsDivisor s (callReset t) := h.xcmdCall .iS1 0#6 zeroArg 1
  unfold initReset
  dsimp only
  split
  case h_1 r htest => exact .of_failure (fun hr => resetTest_ne_success _ (hr ▸ htest)) hcall
  case h_2 => exact initInterface_speedsUpOnSuccess hcall

/-! ### INIT as a whole -/

/-- A host operation is admitted exactly where SEQ is IDLE and the bus free (R213). -/
theorem admitted_eq_none_iff (s : State) : admitted s = none ↔ Free s := by
  unfold admitted Free
  split_ifs <;> simp_all

/-- An INIT that completes was admitted, and ran its pseudocode (R170). -/
theorem exec_init_eq_next {s t : State} {b o : Div} {n : Nat} (h : exec (.init b o n) s = .next t) :
    Free s ∧ t = initOperation b o n s := by
  change execInit b o n s = .next t at h
  unfold execInit at h
  split at h
  case h_1 => cases h
  case h_2 hadmitted => exact ⟨(admitted_eq_none_iff s).mp hadmitted, (Host.Outcome.next.inj h).symm⟩

/-- From the bootstrap configuration on, an INIT issued with the bus free keeps the divisor or speeds up (R171, R181). -/
theorem initOperation_speedsUpOnSuccess {b o : Div} {n : Nat} {s : State} (h : s.busHeld = false) :
    SpeedsUpOnSuccess (initBegin b o n s) (initOperation b o n s) := by
  have hbegin : KeepsDivisor (initBegin b o n s) (initBegin b o n s) := .refl h
  unfold initOperation
  dsimp only
  split
  case isTrue => exact initReset_speedsUpOnSuccess hbegin
  case isFalse => exact initReset_speedsUpOnSuccess hbegin.preamble

@[simp] theorem initBegin_tx (b o : Div) (n : Nat) (s : State) :
    (initBegin b o n s).tx = s.tx ++ [.cfg b .msbFirst .mode0] := configure_tx b _

@[simp] theorem initBegin_ctxDiv (b o : Div) (n : Nat) (s : State) : (initBegin b o n s).ctxDiv = o := rfl

/-- Settles O34: the bootstrap configuration comes first, the steps up to the last keep the divisor, and the last step
configures the operating divisor, after which the ending makes no event. -/
theorem initConfiguresBootstrapThenOperating : Obligations.InitConfiguresBootstrapThenOperating := by
  intro s t b o n hexec
  obtain ⟨⟨-, hfree⟩, rfl⟩ := exec_init_eq_next hexec
  rcases initOperation_speedsUpOnSuccess (b := b) (o := o) (n := n) hfree with ⟨hfailed, hkept⟩ | ⟨u, hkept, hend⟩
  case inl =>
    obtain ⟨es, htx, hbalance, hcfg⟩ := hkept.events
    refine ⟨[.cfg b .msbFirst .mode0] ++ es, by simp [htx], ?balance, fun hsuccess => absurd hsuccess hfailed, fun _ => ?only⟩
    case balance => rw [acquires_append, releases_append, hbalance]; rfl
    case only => rw [configurations_append, hcfg]; rfl
  case inr =>
    obtain ⟨es, htx, hbalance, hcfg⟩ := hkept.events
    have hbusFree : (configure o u).busHeld = false := hkept.busHeld
    rw [initBegin_ctxDiv] at hend
    rw [hend, finish_result, finish_ctxDiv, finish_tx_of_busFree .success hbusFree, configure_tx, htx, initBegin_tx]
    refine ⟨[.cfg b .msbFirst .mode0] ++ es ++ [.cfg o .msbFirst .mode0], by simp, ?balance,
      fun _ => ⟨?both, List.getLast?_concat, hkept.ctxDiv⟩, fun hfailed => absurd rfl hfailed⟩
    case balance => simp only [acquires_append, releases_append, hbalance]; rfl
    case both => simp only [configurations_append, hcfg]; rfl

end Sys2Proof.Machine

/-! PROOFS. The block read's two checks (44_block_read.md R191 and R193). The status check is settled on the whole operation:
XR1's poll has two endings, and either failure is one release with neither a token polled nor data received. The token check is
settled on the step, where SEQ stands at B_TOKEN. -/

namespace Sys2Proof.Machine

open Spec

/-! ### The end of a block read -/

/-- The end of a host operation that holds the bus makes one event, the release (R209 (1)). -/
theorem finish_tx_of_busHeld (r : Result) {s : State} (h : s.busHeld = true) : (finish r s).tx = s.tx ++ [.release] := by
  simp [finish_eq, State.tx, h]

@[simp] theorem finish_token (r : Result) (s : State) : (finish r s).token = s.token := by rw [finish_eq]

@[simp] theorem finish_rxPos (r : Result) (s : State) : (finish r s).rxPos = s.rxPos := by rw [finish_eq]

/-! ### XR1's poll, from the frame sent to its two endings -/

/-- Where XR1's status poll begins: the bus is acquired, the clock settled, the frame sent (R152). -/
def commandSent (c : BitVec 6) (a : BitVec 32) (s : State) : State := sendFrame c a (pulse (acquireBus s))

@[simp] theorem commandSent_pollCnt (c : BitVec 6) (a : BitVec 32) (s : State) : (commandSent c a s).pollCnt = s.ctxTb := by
  rw [commandSent, sendFrame, startPoll_eq]; rfl

@[simp] theorem commandSent_seq (c : BitVec 6) (a : BitVec 32) (s : State) : (commandSent c a s).seq = .xSend := by
  rw [commandSent, sendFrame, startPoll_eq]; rfl

@[simp] theorem commandSent_token (c : BitVec 6) (a : BitVec 32) (s : State) : (commandSent c a s).token = s.token := by
  rw [commandSent, sendFrame, startPoll_eq]; rfl

@[simp] theorem commandSent_data (c : BitVec 6) (a : BitVec 32) (s : State) : (commandSent c a s).data = s.data := by
  rw [commandSent, sendFrame, startPoll_eq]; rfl

@[simp] theorem commandSent_rxAt (c : BitVec 6) (a : BitVec 32) (s : State) (i : Nat) :
    (commandSent c a s).rxAt i = s.rxAt i := by
  rw [commandSent, sendFrame, startPoll_eq]; rfl

@[simp] theorem commandSent_rxTake (c : BitVec 6) (a : BitVec 32) (s : State) (n : Nat) :
    (commandSent c a s).rxTake n = s.rxTake n := by
  simp only [State.rxTake, List.map_inj_left, commandSent_rxAt, implies_true]

@[simp] theorem commandSent_busHeld (c : BitVec 6) (a : BitVec 32) (s : State) : (commandSent c a s).busHeld = true :=
  (xr1_begin c a s).2.1

@[simp] theorem commandSent_tx (c : BitVec 6) (a : BitVec 32) (s : State) :
    (commandSent c a s).tx = s.tx ++ [.acquire, .idle 1, .send (frame c a).toList] :=
  (xr1_begin c a s).1

/-- XR1 is its poll of at most CTX_TB attempts from there (R152, R153). -/
theorem xr1_eq_pollLoop (c : BitVec 6) (a : BitVec 32) (s : State) :
    xr1 c a s = pollLoop s.ctxTb (commandSent c a s) := by
  rw [← commandSent_pollCnt c a s]; rfl

/-- A byte with bit 7 set is no valid status byte (R150). -/
theorem validStatus_eq_false_iff (b : Byte) : validStatus b = false ↔ b.getLsbD 7 = true := by
  rw [validStatus, Bool.not_eq_false']

/-- The bytes before an end of the poll, read where the frame has been sent, are the bytes of RX. -/
theorem commandSent_skips (c : BitVec 6) (a : BitVec 32) {s : State} {n : Nat} (h : AllSkip s 0 n) :
    ∀ j, j < n → validStatus ((commandSent c a s).rxAt j) = false := by
  intro j hj
  simpa [validStatus_eq_false_iff] using h j hj

/-- With no valid byte XR1 makes all its attempts (R153). -/
theorem xr1_of_allSkip (c : BitVec 6) (a : BitVec 32) {s : State} (h : AllSkip s 0 s.ctxTb) :
    xr1 c a s = afterStatusBytes s.ctxTb (commandSent c a s) := by
  rw [xr1_eq_pollLoop, pollLoop_timeout _ _ (commandSent_skips c a h)]

/-- XR1 stops at the first valid byte (R153). -/
theorem xr1_of_firstValid (c : BitVec 6) (a : BitVec 32) {s : State} {k : Nat} (hk : k < s.ctxTb) (h : FirstValid s 0 k) :
    xr1 c a s = afterStatusBytes (k + 1) (commandSent c a s) := by
  obtain ⟨hskip, hvalid⟩ := h
  have hfound : validStatus ((commandSent c a s).rxAt k) = true := by simpa [validStatus_iff] using hvalid
  rw [xr1_eq_pollLoop, pollLoop_success _ k _ hk (commandSent_skips c a hskip) hfound]

@[simp] theorem afterStatusBytes_token (n : Nat) (s : State) : (afterStatusBytes n s).token = s.token := by
  cases n with
  | zero => rfl
  | succ n => rw [afterStatusBytes_succ]

@[simp] theorem afterStatusBytes_data (n : Nat) (s : State) : (afterStatusBytes n s).data = s.data := by
  cases n with
  | zero => rfl
  | succ n => rw [afterStatusBytes_succ]

theorem afterStatusBytes_succ_status (n : Nat) (s : State) : (afterStatusBytes (n + 1) s).status = s.rxAt n := by
  rw [afterStatusBytes_succ]

/-- After at least one attempt the last byte decides the class (R153). -/
theorem pollOutcome_afterStatusBytes_succ (n : Nat) (s : State) :
    pollOutcome (afterStatusBytes (n + 1) s) = if validStatus (s.rxAt n) = true then .success else .timeout := by
  simp only [pollOutcome, afterStatusBytes_succ, true_and]

/-- XR1 returns TIMEOUT when no valid byte comes, at CTX_TB = 0 because SEQ has not left X_SEND (R153, R154). -/
theorem pollOutcome_xr1_of_allSkip (c : BitVec 6) (a : BitVec 32) {s : State} (h : AllSkip s 0 s.ctxTb) :
    pollOutcome (xr1 c a s) = .timeout := by
  have hskips := commandSent_skips c a h
  rw [xr1_of_allSkip c a h]
  cases hn : s.ctxTb with
  | zero => simp [afterStatusBytes, pollOutcome]
  | succ n => rw [pollOutcome_afterStatusBytes_succ, hskips n (by omega)]; rfl

/-- XR1 returns SUCCESS at a valid byte (R153). -/
theorem pollOutcome_xr1_of_firstValid (c : BitVec 6) (a : BitVec 32) {s : State} {k : Nat} (hk : k < s.ctxTb)
    (h : FirstValid s 0 k) : pollOutcome (xr1 c a s) = .success := by
  have hvalid : validStatus (s.rxAt k) = true := by simpa [validStatus_iff] using h.2
  rw [xr1_of_firstValid c a hk h, pollOutcome_afterStatusBytes_succ, commandSent_rxAt, if_pos hvalid]

/-- The bytes of RX from offset 0 on are the next bytes of RX. -/
theorem rxFrom_zero (s : State) (n : Nat) : rxFrom s 0 n = s.rxTake n := by simp [rxFrom, State.rxTake]

/-! ### The status check of a block read -/

/-- RDBLK runs its pseudocode where it is admitted (R190, R213). -/
theorem exec_rdblk {s : State} (a : BitVec 32) (hfree : Free s) (hctx : s.ctxValid = true) :
    exec (.rdblk a) s = .next (rdblk a s) := by
  have hadmitted : rdblkAdmitted s = none := by simp [rdblkAdmitted, (admitted_eq_none_iff s).mpr hfree, hctx]
  change execRdblk a s = _
  rw [execRdblk, hadmitted]

/-- A block read whose poll times out ends with TIMEOUT (R191). -/
theorem rdblk_of_allSkip (a : BitVec 32) {s : State} (h : AllSkip s 0 s.ctxTb) :
    rdblk a s = finish .timeout (afterStatusBytes s.ctxTb (commandSent readCmd a (loadRead a s))) := by
  have hload : AllSkip (loadRead a s) 0 (loadRead a s).ctxTb := h
  have hpoll : pollOutcome (xr1 readCmd a (loadRead a s)) = .timeout := pollOutcome_xr1_of_allSkip readCmd a hload
  rw [rdblk, hpoll, if_pos (by decide), xr1_of_allSkip readCmd a hload]
  rfl

/-- A block read whose valid status byte is not 0x00 ends with BAD_RESPONSE (R191). -/
theorem rdblk_of_badStatus (a : BitVec 32) {s : State} {k : Nat} (hk : k < s.ctxTb) (h : FirstValid s 0 k)
    (hbad : s.rxAt k ≠ 0x00#8) :
    rdblk a s = finish .badResponse (afterStatusBytes (k + 1) (commandSent readCmd a (loadRead a s))) := by
  have hload : FirstValid (loadRead a s) 0 k := h
  have hbound : k < (loadRead a s).ctxTb := hk
  have hpoll : pollOutcome (xr1 readCmd a (loadRead a s)) = .success := pollOutcome_xr1_of_firstValid readCmd a hbound hload
  have hstatus : (xr1 readCmd a (loadRead a s)).status = s.rxAt k := by
    rw [xr1_of_firstValid readCmd a hbound hload, afterStatusBytes_succ_status, commandSent_rxAt]
    rfl
  rw [rdblk, hpoll, if_neg (by decide), hstatus, if_pos hbad, xr1_of_firstValid readCmd a hbound hload]

/-- A block read that ends before its token poll is one transaction of its status bytes, and leaves TOKEN and DATA alone
(R191). -/
theorem finish_commandSent_read (r : Result) (n : Nat) (a : BitVec 32) (s : State) :
    (finish r (afterStatusBytes n (commandSent readCmd a (loadRead a s)))).tx =
      s.tx ++ transaction 17#6 a ((rxFrom s 0 n).map .rx) ∧
    (finish r (afterStatusBytes n (commandSent readCmd a (loadRead a s)))).token = s.token ∧
    (finish r (afterStatusBytes n (commandSent readCmd a (loadRead a s)))).data = s.data := by
  refine ⟨?tx, by simp [loadRead], by simp [loadRead]⟩
  have hload : (loadRead a s).tx = s.tx := rfl
  have hbytes : (loadRead a s).rxTake n = s.rxTake n := rfl
  rw [finish_tx_of_busHeld r (by simp), afterStatusBytes_tx, commandSent_tx, commandSent_rxTake, hload, hbytes, rxFrom_zero]
  simp only [transaction, readCmd, List.append_assoc]

/-- Settles O26: either failing poll ends the block read at once, where only the command and the status bytes have gone
before. -/
theorem rdblkStatusCheck : Obligations.RdblkStatusCheck := by
  intro s a hfree hctx
  rw [exec_rdblk a hfree hctx]
  refine ⟨fun hskip => ⟨_, rfl, ?timeout⟩, fun k hk hvalid hbad => ⟨_, rfl, ?badResponse⟩⟩
  case timeout =>
    rw [rdblk_of_allSkip a hskip]
    exact ⟨finish_result .., finish_seq .., finish_busHeld .., finish_commandSent_read ..⟩
  case badResponse =>
    rw [rdblk_of_badStatus a hk hvalid hbad]
    refine ⟨finish_result .., finish_seq .., finish_busHeld .., ?status, finish_commandSent_read ..⟩
    rw [finish_status, afterStatusBytes_succ_status, commandSent_rxAt]
    rfl

/-! ### Steps that run a word and steps that end an operation -/

/-- A step that fetches a word runs the instruction the word decodes to. -/
theorem step_of_fetch_word {s t : State} {p : PortWord} {i : Instr} (hfetch : fetch s = .word p t)
    (hdecode : decode p = .ok i) : step s = runWord i t := by
  simp only [step, hfetch, hdecode]

/-- A row below the operations is run whole at either grain (R92, D30). -/
theorem runWord_eq_exec {i : Instr} (hissue : hostMayIssue i = true) (hwhole : beginOperation i = exec i) (s : State) :
    runWord i s = exec i s := by
  rw [runWord, if_pos hissue]
  cases s.grain with
  | operation => rfl
  | event => rw [← hwhole]

/-- What ends inside a block read ends the host's operation: RET is no state of INIT, and no XCMD is open (R209). -/
theorem conclude_of_blockRead (r : Result) {s : State} (h : s.ret = .bCheck) : conclude r s = finish r s := by
  simp [conclude, exchangeOpen, h, handshakeReturn]

/-- The code of a class that some rule writes is read as a row that ends with that class, at either grain (R101, R205). -/
theorem exists_row_of_resultCode {r : Result} (hr : r ≠ .checksumError) :
    ∃ i, decode (.resultCode r.code) = .ok i ∧ ∀ s, runWord i s = endWith r s := by
  cases r with
  | success => exact ⟨.success, rfl, runWord_eq_exec rfl rfl⟩
  | timeout => exact ⟨.timeout, rfl, runWord_eq_exec rfl rfl⟩
  | notSupported => exact ⟨.notSupported, rfl, runWord_eq_exec rfl rfl⟩
  | badResponse => exact ⟨.badResponse, rfl, runWord_eq_exec rfl rfl⟩
  | checksumError => exact absurd rfl hr

/-- Where a class is due, the step ends with it (R209). -/
theorem step_of_dueClass {s : State} {r : Result} (hdue : dueClass s = some r) (hr : r ≠ .checksumError) :
    step s = .next (conclude r s) := by
  obtain ⟨i, hdecode, hrun⟩ := exists_row_of_resultCode hr
  have hfetch : fetch s = .word (.resultCode r.code) s := by rw [fetch, hdue]
  rw [step_of_fetch_word hfetch hdecode, hrun, endWith, if_pos hdue]

/-! ### The token poll and the data -/

/-- Whatever byte the token poll received, its row is an attempt that returned that byte (R92, R192). -/
theorem runWord_decodeToken (b : Byte) (s : State) : runWord (decodeToken b) s = tokenAttempt b s := by
  unfold decodeToken
  split_ifs with hfiller hstart
  · rw [hfiller]; exact runWord_eq_exec rfl rfl s
  · rw [hstart]; exact runWord_eq_exec rfl rfl s
  · exact runWord_eq_exec rfl rfl s

/-- After filler, with budget left, the step polls the next byte (R192). -/
theorem step_tokenPoll {s : State} (hseq : s.seq = .bToken) (hfiller : isFiller s.token = true) (hbudget : s.pollCnt ≠ 0) :
    step s = .next (tokenByte (s.rxAt 0) (s.rxDrop 1)) := by
  have hdue : dueClass s = none := by simp [dueClass, hseq, hfiller, hbudget]
  have hfetch : fetch s = .word (.tokenPoll (s.rxAt 0)) (s.rxDrop 1) := by
    simp [fetch, hdue, sequencerEvent, hseq, hfiller]
  have hopen : tokenPolling (s.rxDrop 1) = true := by simp [tokenPolling, hseq, hfiller, hbudget]
  rw [step_of_fetch_word hfetch rfl, runWord_decodeToken, tokenAttempt, if_pos hopen]

/-- After the start token the step receives the data block (R193, R194). -/
theorem step_takeData {s : State} (hseq : s.seq = .bToken) (hstart : s.token = startToken) :
    step s = .next (takeData s) := by
  have hfiller : isFiller s.token = false := by rw [hstart]; decide
  have hdue : dueClass s = none := by simp only [dueClass, hseq, hfiller, if_pos hstart, Bool.false_eq_true, if_false]
  have hfetch : fetch s = .act (takeData s) := by simp [fetch, hdue, sequencerEvent, hseq, hfiller]
  simp only [step, hfetch]

/-- The i-th byte received goes to DATA[i] (R194). -/
theorem takeData_data_get (s : State) (i : Nat) (h : i < 512) : (takeData s).data[i] = s.rxAt i := by
  simp [takeData]

@[simp] theorem takeData_tx (s : State) : (takeData s).tx = s.tx ++ [.rxn (s.rxTake 512)] := emit_tx ..

/-- Undrained, the step after the data ends the block read with SUCCESS (R195). -/
theorem step_takeData_undrained {s : State} (hret : s.ret = .bCheck) (hdrain : s.cfg.drainCrc = false) :
    step (takeData s) = .next (finish .success (takeData s)) := by
  have hdue : dueClass (takeData s) = some .success := by simp [dueClass, takeData, hdrain]
  have hretAfter : (takeData s).ret = .bCheck := hret
  rw [step_of_dueClass hdue (by decide), conclude_of_blockRead _ hretAfter]

/-- Any byte but filler and the start token ends the block read with BAD_RESPONSE, at the next step (R193). -/
theorem step_badToken {s : State} (hseq : s.seq = .bToken) (hret : s.ret = .bCheck) (hfiller : s.token ≠ filler)
    (hstart : s.token ≠ startToken) : step s = .next (finish .badResponse s) := by
  have hdue : dueClass s = some .badResponse := by simp [dueClass, hseq, isFiller, hfiller, hstart]
  rw [step_of_dueClass hdue (by decide), conclude_of_blockRead _ hret]

/-- Settles O29: one step lemma for each class of byte found, and for the start token the ending after the data. -/
theorem tokenCheckAtTheFoundByte : Obligations.TokenCheckAtTheFoundByte := by
  intro s hseq hret hheld
  refine ⟨fun hfill hbudget => ?filler, fun hstart => ?start, fun hfill hstart => ?other⟩
  case filler =>
    exact ⟨_, step_tokenPoll hseq (decide_eq_true hfill) hbudget, rfl, rfl, rfl, rfl⟩
  case start =>
    refine ⟨_, step_takeData hseq hstart, takeData_tx s, rfl, takeData_data_get s, fun hdrain => ?success⟩
    have hheldAfter : (takeData s).busHeld = true := hheld
    exact ⟨_, step_takeData_undrained hret hdrain, finish_result .., finish_seq .., finish_busHeld .., finish_data ..,
      finish_tx_of_busHeld _ hheldAfter, finish_rxPos ..⟩
  case other =>
    exact ⟨_, step_badToken hseq hret hfill hstart, finish_result .., finish_seq .., finish_busHeld .., finish_data ..,
      finish_rxPos .., finish_tx_of_busHeld _ hheld⟩

end Sys2Proof.Machine

/-! PROOFS. The release of the bus (70_reset_and_hazards.md R235). The events an operation of the host adds to TX are whole
transactions: a block read is an XR1 that only receives until it ends, and INIT is made of exchanges, whatever RX answers. -/

namespace Sys2Proof.Machine

open Spec

/-! ### Receptions -/

/-- From `s` to `t` the block only received: every new event is a reception, and BUS_HELD is kept. -/
structure Receives (s t : State) : Prop where
  events : ∃ rs, (∀ e ∈ rs, isReception e = true) ∧ t.tx = s.tx ++ rs
  busHeld : t.busHeld = s.busHeld

namespace Receives

variable {s t u : State}

/-- A change of other registers is no event. -/
theorem of_tx_eq (htx : t.tx = s.tx) (hheld : t.busHeld = s.busHeld) : Receives s t :=
  ⟨⟨[], by simp, by simp [htx]⟩, hheld⟩

theorem of_reception {e : Event} (he : isReception e = true) (htx : t.tx = s.tx ++ [e]) (hheld : t.busHeld = s.busHeld) :
    Receives s t := ⟨⟨[e], by simpa using he, htx⟩, hheld⟩

theorem trans (hst : Receives s t) (htu : Receives t u) : Receives s u := by
  obtain ⟨rs, hrs, htx⟩ := hst.events
  obtain ⟨rs', hrs', hutx⟩ := htu.events
  refine ⟨⟨rs ++ rs', fun e he => ?_, by rw [hutx, htx, List.append_assoc]⟩, htu.busHeld.trans hst.busHeld⟩
  exact (List.mem_append.mp he).elim (hrs e) (hrs' e)

end Receives

/-- The token poll only receives (R190, R192). -/
theorem receives_tokenLoop (n : Nat) (s : State) : Receives s (tokenLoop n s).2 := by
  induction n generalizing s with
  | zero => exact .of_tx_eq rfl rfl
  | succ n ih =>
    have hbyte : Receives s (tokenByte (s.rxAt 0) (s.rxDrop 1)) := .of_reception rfl (emit_tx ..) rfl
    rw [tokenLoop]
    split
    case isTrue => exact hbyte.trans (ih _)
    case isFalse => exact hbyte

theorem receives_drainChecksum (s : State) : Receives s (drainChecksum s) := .of_reception rfl (emit_tx ..) rfl

/-- The data, drained or not, are only received (R194, R195). -/
theorem receives_readData (s : State) : Receives s (readData s) := by
  have hdata : Receives s (takeData s) := .of_reception rfl (takeData_tx s) rfl
  unfold readData
  split
  case isTrue => exact hdata.trans (receives_drainChecksum _)
  case isFalse => exact hdata

/-- After its status check a block read only receives until it ends (R190). -/
theorem readAfterStatus_eq_finish (s : State) : ∃ r u, readAfterStatus s = finish r u ∧ Receives s u := by
  have hbudget : Receives s (loadTokenBudget s) := .of_tx_eq rfl rfl
  have hpoll := hbudget.trans (receives_tokenLoop s.cfg.tokenPolls (loadTokenBudget s))
  unfold readAfterStatus
  dsimp only
  split_ifs
  · exact ⟨_, _, rfl, hpoll⟩
  · exact ⟨_, _, rfl, hpoll⟩
  · exact ⟨_, _, rfl, hpoll.trans (receives_readData _)⟩

/-- After its XR1 a block read only receives until it ends, whatever its class (R190). -/
theorem rdblk_eq_finish (a : BitVec 32) (s : State) :
    ∃ r u, rdblk a s = finish r u ∧ Receives (xr1 readCmd a (loadRead a s)) u := by
  unfold rdblk
  dsimp only
  split_ifs
  · exact ⟨_, _, rfl, .of_tx_eq rfl rfl⟩
  · exact ⟨_, _, rfl, .of_tx_eq rfl rfl⟩
  · exact readAfterStatus_eq_finish _

/-! ### Whole transactions -/

/-- The events of `n` whole transactions, with configurations and idle clocks between them and nothing else (R57, R171,
R181). -/
inductive WholeTransactions : Nat → List Event → Prop
  | nil : WholeTransactions 0 []
  | configure {n : Nat} {es : List Event} (d : Div) : WholeTransactions n es →
      WholeTransactions n (es ++ [.cfg d .msbFirst .mode0])
  | idle {n : Nat} {es : List Event} (k : Nat) : WholeTransactions n es → WholeTransactions n (es ++ [.idle k])
  | transaction {n : Nat} {es rs : List Event} (c : BitVec 6) (a : BitVec 32) : WholeTransactions n es →
      (∀ e ∈ rs, isReception e = true) → WholeTransactions (n + 1) (es ++ transaction c a rs)

theorem busEvents_append (es fs : List Event) : busEvents (es ++ fs) = busEvents es ++ busEvents fs := List.filter_append ..

theorem busEvents_receptions {rs : List Event} (h : ∀ e ∈ rs, isReception e = true) : busEvents rs = [] := by
  refine List.filter_eq_nil_iff.mpr fun e he => ?_
  cases e with
  | acquire => exact absurd (h _ he) (by decide)
  | release => exact absurd (h _ he) (by decide)
  | _ => simp

/-- A transaction acquires the bus and then releases it. -/
theorem busEvents_transaction (c : BitVec 6) (a : BitVec 32) {rs : List Event} (h : ∀ e ∈ rs, isReception e = true) :
    busEvents (transaction c a rs) = [.acquire, .release] := by
  rw [transaction, busEvents_append, busEvents_append, busEvents_receptions h]
  rfl

/-- Over whole transactions, acquisitions and releases alternate and balance (R235). -/
theorem WholeTransactions.busEvents_eq {n : Nat} {es : List Event} (h : WholeTransactions n es) :
    busEvents es = (List.replicate n [Event.acquire, Event.release]).flatten := by
  induction h with
  | nil => rfl
  | configure d _ ih => rw [busEvents_append, ih]; exact List.append_nil _
  | idle k _ ih => rw [busEvents_append, ih]; exact List.append_nil _
  | transaction c a _ hrs ih =>
    rw [busEvents_append, ih, busEvents_transaction c a hrs, List.replicate_succ', List.flatten_concat]

/-- From `s` to `t` whole transactions were made, and the bus is free at `t`. -/
structure Transacts (s t : State) : Prop where
  events : ∃ n es, t.tx = s.tx ++ es ∧ WholeTransactions n es
  busHeld : t.busHeld = false

namespace Transacts

variable {s t u : State}

theorem of_tx_eq (htx : t.tx = s.tx) (hfree : t.busHeld = false) : Transacts s t := ⟨⟨0, [], by simp [htx], .nil⟩, hfree⟩

theorem refl (hfree : s.busHeld = false) : Transacts s s := .of_tx_eq rfl hfree

theorem configure (h : Transacts s t) (d : Div) : Transacts s (configure d t) := by
  obtain ⟨n, es, htx, hes⟩ := h.events
  exact ⟨⟨n, _, by rw [configure_tx, htx, List.append_assoc], hes.configure d⟩, h.busHeld⟩

/-- The preamble is idle clocks outside any transaction (D26). -/
theorem preamble (h : Transacts s t) : Transacts s (preamble t) := by
  obtain ⟨n, es, htx, hes⟩ := h.events
  have hpreamble : (Machine.preamble t).tx = t.tx ++ [.idle t.cfg.preambleClocks] := emit_tx ..
  exact ⟨⟨n, _, by rw [hpreamble, htx, List.append_assoc], hes.idle _⟩, h.busHeld⟩

/-- A transaction whole in TX, with the bus free after it. -/
theorem transaction (h : Transacts s t) {c : BitVec 6} {a : BitVec 32} {rs : List Event}
    (hrs : ∀ e ∈ rs, isReception e = true) (hutx : u.tx = t.tx ++ transaction c a rs) (hfree : u.busHeld = false) :
    Transacts s u := by
  obtain ⟨n, es, htx, hes⟩ := h.events
  exact ⟨⟨n + 1, _, by rw [hutx, htx, List.append_assoc], hes.transaction c a hrs⟩, hfree⟩

theorem xcmdCall (h : Transacts s t) (ret : Seq) (c : BitVec 6) (a : BitVec 32) (n : Nat) :
    Transacts s (xcmdCall ret c a n t) := by
  obtain ⟨⟨rs, hrs, htx⟩, hfree, -⟩ := xcmdCall_spec ret c a n t
  exact h.transaction hrs htx hfree

/-- An ending with the bus free makes no event. -/
theorem finish (h : Transacts s t) (r : Result) : Transacts s (finish r t) := by
  refine ⟨?_, finish_busHeld r t⟩
  rw [finish_tx_of_busFree r h.busHeld]
  exact h.events

/-- ATT_CNT is no part of what is made. -/
theorem setAttCnt (h : Transacts s t) (n : Nat) : Transacts s { t with attCnt := n } := ⟨h.events, h.busHeld⟩

end Transacts

/-! ### INIT, once for every property its calls keep -/

/-- What INIT is made of keeps `P`: an exchange, a write of ATT_CNT, a configuration, an ending (R170). -/
structure KeptByInit (P : State → Prop) : Prop where
  xcmdCall : ∀ {u : State} (ret : Seq) (c : BitVec 6) (a : BitVec 32) (n : Nat), P u → P (xcmdCall ret c a n u)
  setAttCnt : ∀ {u : State} (n : Nat), P u → P { u with attCnt := n }
  configure : ∀ {u : State} (d : Div), P u → P (configure d u)
  finish : ∀ {u : State} (r : Result), P u → P (finish r u)

namespace KeptByInit

variable {P : State → Prop} {u : State}

theorem attempt (hP : KeptByInit P) (h : P u) : P (attempt u) :=
  hP.xcmdCall .iS3B 41#6 hcsArg 1 (hP.xcmdCall .iS3A 55#6 zeroArg 1 (hP.setAttCnt _ h))

theorem negotiate (hP : KeptByInit P) (n : Nat) (h : P u) : P (negotiate n u).2 := by
  induction n generalizing u with
  | zero => exact h
  | succ n ih =>
    rw [Machine.negotiate]
    split
    case isTrue =>
      dsimp only
      exact hP.attempt h
    case isFalse => exact ih (hP.attempt h)

theorem initFinish (hP : KeptByInit P) (h : P u) : P (initFinish u) := by
  have hcall : P (callCapacity u) := hP.xcmdCall .iS4 58#6 zeroArg 5 h
  unfold Machine.initFinish
  dsimp only
  split
  case h_1 r _ => exact hP.finish r hcall
  case h_2 => exact hP.finish .success (hP.configure _ hcall)

theorem initNegotiate (hP : KeptByInit P) (h : P u) : P (initNegotiate u) := by
  have hnegotiate : P (Machine.negotiate u.cfg.negAttempts (loadAttempts u)).2 := hP.negotiate _ (hP.setAttCnt _ h)
  unfold Machine.initNegotiate
  dsimp only
  split
  case isTrue => exact hP.initFinish hnegotiate
  case isFalse => exact hP.finish .timeout hnegotiate

theorem initInterface (hP : KeptByInit P) (h : P u) : P (initInterface u) := by
  have hcall : P (callInterface u) := hP.xcmdCall .iS2 8#6 checkArg 5 h
  unfold Machine.initInterface
  dsimp only
  split
  case h_1 r _ => exact hP.finish r hcall
  case h_2 => exact hP.initNegotiate hcall

theorem initReset (hP : KeptByInit P) (h : P u) : P (initReset u) := by
  have hcall : P (callReset u) := hP.xcmdCall .iS1 0#6 zeroArg 1 h
  unfold Machine.initReset
  dsimp only
  split
  case h_1 r _ => exact hP.finish r hcall
  case h_2 => exact hP.initInterface hcall

end KeptByInit

/-- What INIT is made of makes whole transactions only. -/
theorem keptByInit_transacts (s : State) : KeptByInit (Transacts s) where
  xcmdCall ret c a n h := h.xcmdCall ret c a n
  setAttCnt n h := h.setAttCnt n
  configure d h := h.configure d
  finish r h := h.finish r

/-! ### What an operation of the host adds to TX -/

/-- A block read is one transaction, however it ends (R190). -/
theorem transacts_rdblk (a : BitVec 32) {s : State} (hfree : s.busHeld = false) : Transacts s (rdblk a s) := by
  obtain ⟨⟨bs, hxtx⟩, hheld, -⟩ := xr1_spec readCmd a (loadRead a s)
  obtain ⟨r, u, hend, hreceives⟩ := rdblk_eq_finish a s
  obtain ⟨rs, hrs, hutx⟩ := hreceives.events
  have hreceptions : ∀ e ∈ bs.map Event.rx ++ rs, isReception e = true :=
    List.forall_mem_append.mpr ⟨List.forall_mem_map.mpr fun _ _ => rfl, hrs⟩
  have hload : (loadRead a s).tx = s.tx := rfl
  rw [hend]
  refine (Transacts.refl hfree).transaction (c := readCmd) (a := a) hreceptions ?tx (finish_busHeld r u)
  rw [finish_tx_of_busHeld r (hreceives.busHeld.trans hheld), hutx, hxtx, hload]
  simp only [transaction, List.append_assoc]

theorem transacts_initOperation (b o : Div) (n : Nat) {s : State} (hfree : s.busHeld = false) :
    Transacts s (initOperation b o n s) := by
  have hbegin : Transacts s (initBegin b o n s) := ⟨⟨0, _, initBegin_tx b o n s, WholeTransactions.nil.configure b⟩, hfree⟩
  unfold initOperation
  dsimp only
  split
  case isTrue => exact (keptByInit_transacts s).initReset hbegin
  case isFalse => exact (keptByInit_transacts s).initReset hbegin.preamble

/-! ### The operations as they complete -/

/-- An operation that completes passed its admission and left the state it computes. -/
theorem next_of_admission {o : Option Refusal} {u t : State}
    (h : (match (motive := Option Refusal → Host.Outcome State Fault Refusal) o with
      | some r => .refused r
      | none => .next u) = .next t) : o = none ∧ u = t := by
  cases o with
  | some r => cases h
  | none => exact ⟨rfl, Host.Outcome.next.inj h⟩

/-- What runs under a condition and completes met it and left the state it computes. -/
theorem next_of_guard {p : Prop} [Decidable p] {r : Refusal} {u t : State}
    (h : (if p then (.next u : Host.Outcome State Fault Refusal) else .refused r) = .next t) : p ∧ u = t := by
  split at h
  case isTrue hp => exact ⟨hp, Host.Outcome.next.inj h⟩
  case isFalse => cases h

theorem exec_crc7_eq_next {m : List Byte} {s t : State} (h : exec (.crc7 m) s = .next t) : crcOperation m s = t :=
  (next_of_admission h).2

theorem exec_frame_eq_next {c : BitVec 6} {a : BitVec 32} {s t : State} (h : exec (.frame c a) s = .next t) :
    buildFrame c a (loadCommand c a s) = t :=
  Host.Outcome.next.inj h

/-- An admission that begins with that of every host operation is met only with the block idle and the bus free (R213). -/
theorem free_of_admission {o : Option Refusal} {s : State}
    (h : (match admitted s with | some r => some r | none => o) = none) : Free s := by
  split at h
  case h_1 => cases h
  case h_2 hadmitted => exact (admitted_eq_none_iff s).mp hadmitted

theorem exec_xcmd_transacts {c : BitVec 6} {a : BitVec 32} {n : Nat} {s t : State}
    (h : exec (.xcmd c a n) s = .next t) : Transacts s t := by
  obtain ⟨hadmitted, rfl⟩ := next_of_admission h
  exact (Transacts.refl (free_of_admission hadmitted).2).xcmdCall .idle c a n

theorem exec_rdblk_transacts {a : BitVec 32} {s t : State} (h : exec (.rdblk a) s = .next t) : Transacts s t := by
  obtain ⟨hadmitted, rfl⟩ := next_of_admission h
  exact transacts_rdblk a (free_of_admission hadmitted).2

theorem exec_init_transacts {b o : Div} {n : Nat} {s t : State} (h : exec (.init b o n) s = .next t) : Transacts s t := by
  obtain ⟨⟨-, hfree⟩, rfl⟩ := exec_init_eq_next h
  exact transacts_initOperation b o n hfree

/-- An XR1 that completes ran its pseudocode and delivered its class (R152). -/
theorem exec_xr1_eq_next {c : BitVec 6} {a : BitVec 32} {s t : State} (h : exec (.xr1 c a) s = .next t) :
    deliverOutcome (xr1 c a (loadCommand c a s)) = t := by
  change execXr1 c a s = .next t at h
  unfold execXr1 at h
  split_ifs at h
  exact Host.Outcome.next.inj h

/-- Settles O51: XR1's bus is the one it acquired; CRC7 and FRAME make no event, and the other operations whole
transactions. -/
theorem busReleasedOnEveryPath : Obligations.BusReleasedOnEveryPath := by
  refine ⟨fun s t c a h => ?held, fun s t i hfree hi h => ?released⟩
  case held =>
    rw [← exec_xr1_eq_next h, deliverOutcome_busHeld]
    exact (xr1_spec c a _).2.1
  case released =>
    have htransacts : Transacts s t := by
      rcases hi with ⟨m, rfl⟩ | ⟨c, a, rfl⟩ | ⟨c, a, l, rfl⟩ | ⟨a, rfl⟩ | ⟨b, o, n, rfl⟩
      · exact .of_tx_eq (by rw [← exec_crc7_eq_next h]; rfl) (by rw [← exec_crc7_eq_next h]; exact hfree.2)
      · exact .of_tx_eq (by rw [← exec_frame_eq_next h]; rfl) (by rw [← exec_frame_eq_next h]; exact hfree.2)
      · exact exec_xcmd_transacts h
      · exact exec_rdblk_transacts h
      · exact exec_init_transacts h
    obtain ⟨n, es, htx, hes⟩ := htransacts.events
    exact ⟨htransacts.busHeld, es, n, htx, hes.busEvents_eq⟩

end Sys2Proof.Machine

/-! PROOFS. The settling pulse (70_reset_and_hazards.md R237). A frame goes out in two ways only: inside a transaction that
XR1 begins, which carries its own pulse, and by a frame row at X_PULSE, where the invariant says that the pulse was the last
event. Everything else adds no frame. -/

namespace Sys2Proof.Machine

open Spec

/-! ### Histories whose frames are settled -/

theorem framesSettled_nil : FramesSettled [] := fun newer _ _ h => absurd h (by simp)

/-- A new event leaves the frames settled exactly when it is no frame, or a frame after the pulse of its transaction. -/
@[simp] theorem framesSettled_cons (e : Event) (h : List Event) :
    FramesSettled (e :: h) ↔ (∀ bs, e = .send bs → ∃ o, h = .idle 1 :: .acquire :: o) ∧ FramesSettled h := by
  constructor
  case mp =>
    intro hsettled
    refine ⟨fun bs he => hsettled [] h bs (by rw [he]; rfl), fun newer older bs hh => ?_⟩
    exact hsettled (e :: newer) older bs (by rw [hh]; rfl)
  case mpr =>
    rintro ⟨hhead, htail⟩ newer older bs heq
    cases newer with
    | nil =>
      obtain ⟨he, rfl⟩ := List.cons.inj heq
      exact hhead bs he
    | cons e' newer => exact htail newer older bs (List.cons.inj heq).2

theorem ne_send_of_isReception {e : Event} (h : isReception e = true) (bs : List Byte) : e ≠ .send bs := by
  rintro rfl
  cases h

theorem framesSettled_receptions {rs h : List Event} (hrs : ∀ e ∈ rs, isReception e = true) (hh : FramesSettled h) :
    FramesSettled (rs ++ h) := by
  induction rs with
  | nil => exact hh
  | cons e rs ih =>
    obtain ⟨he, hrs⟩ := List.forall_mem_cons.mp hrs
    exact (framesSettled_cons e _).mpr ⟨fun bs hsend => absurd hsend (ne_send_of_isReception he bs), ih hrs⟩

/-- A transaction, released or still open, carries the pulse of its frame (R152). -/
theorem framesSettled_transactionBegun {h rs : List Event} (bs : List Byte) (hrs : ∀ e ∈ rs, isReception e = true)
    (hh : FramesSettled h) : FramesSettled (([Event.acquire, .idle 1, .send bs] ++ rs).reverse ++ h) := by
  rw [List.reverse_append, List.append_assoc]
  refine framesSettled_receptions (fun e he => hrs e (List.mem_reverse.mp he)) ?_
  simpa using hh

theorem framesSettled_wholeTransactions {h es : List Event} {n : Nat} (hes : WholeTransactions n es)
    (hh : FramesSettled h) : FramesSettled (es.reverse ++ h) := by
  induction hes with
  | nil => exact hh
  | configure d _ ih => simpa using ih
  | idle k _ ih => simpa using ih
  | transaction c a _ hrs ih =>
    rw [List.reverse_append, transaction, List.reverse_append, List.append_assoc, List.append_assoc]
    exact (framesSettled_cons .release _).mpr ⟨by simp, framesSettled_transactionBegun _ hrs ih⟩

/-- The events after an operation, newest first. -/
theorem txRev_of_tx {s t : State} {es : List Event} (h : t.tx = s.tx ++ es) : t.txRev = es.reverse ++ s.txRev := by
  simpa [State.tx] using congrArg List.reverse h

theorem Transacts.framesSettled {s t : State} (h : Transacts s t) (hs : FramesSettled s.txRev) : FramesSettled t.txRev := by
  obtain ⟨n, es, htx, hes⟩ := h.events
  rw [txRev_of_tx htx]
  exact framesSettled_wholeTransactions hes hs

/-! ### The discipline of TX settles its frames -/

theorem tracePhase_cons {e : Event} {h : List Event} {q : Phase} (hphase : tracePhase (e :: h) = some q) :
    ∃ p, tracePhase h = some p ∧ p.after e = some q := by
  rw [tracePhase] at hphase
  split at hphase
  case h_1 => cases hphase
  case h_2 p hp => exact ⟨p, hp, hphase⟩

theorem eq_acquire_of_after {p : Phase} {e : Event} (h : p.after e = some .acquired) : e = .acquire := by
  unfold Phase.after at h
  split at h <;> simp_all

theorem eq_pulse_of_after {p : Phase} {e : Event} (h : p.after e = some .settled) : p = .acquired ∧ e = .idle 1 := by
  unfold Phase.after at h
  split at h <;> simp_all

theorem eq_settled_of_after_send {p q : Phase} {bs : List Byte} (h : p.after (.send bs) = some q) : p = .settled := by
  cases p with
  | settled => rfl
  | _ => cases h

/-- Where the transaction has come to its pulse, the pulse and the acquisition are the last two events. -/
theorem pulse_of_tracePhase_settled {h : List Event} (hphase : tracePhase h = some .settled) :
    ∃ o, h = .idle 1 :: .acquire :: o := by
  cases h with
  | nil => cases hphase
  | cons e h =>
    obtain ⟨p, hp, hpulse⟩ := tracePhase_cons hphase
    obtain ⟨rfl, rfl⟩ := eq_pulse_of_after hpulse
    cases h with
    | nil => cases hp
    | cons e' o =>
      obtain ⟨p', -, hacquire⟩ := tracePhase_cons hp
      exact ⟨o, by rw [eq_acquire_of_after hacquire]⟩

/-- A history that keeps the discipline has its frames settled. -/
theorem framesSettled_of_tracePhase {h : List Event} {p : Phase} (hphase : tracePhase h = some p) : FramesSettled h := by
  induction h generalizing p with
  | nil => exact framesSettled_nil
  | cons e h ih =>
    obtain ⟨q, hq, hafter⟩ := tracePhase_cons hphase
    refine (framesSettled_cons e h).mpr ⟨?_, ih hq⟩
    rintro bs rfl
    obtain rfl := eq_settled_of_after_send hafter
    exact pulse_of_tracePhase_settled hq

/-- What an instruction needs in order to leave the frames settled: they are, and at X_PULSE the pulse is the last event. -/
structure ReadyToSend (s : State) : Prop where
  settled : FramesSettled s.txRev
  pulse : s.seq = .xPulse → ∃ o, s.txRev = .idle 1 :: .acquire :: o

theorem readyToSend_of_inv {s : State} (h : Inv s) : ReadyToSend s := by
  obtain ⟨hphase, -⟩ := h
  refine ⟨framesSettled_of_tracePhase hphase, fun hseq => ?_⟩
  rw [hseq] at hphase
  exact pulse_of_tracePhase_settled hphase

/-- SEQ and TX are all it depends on. -/
theorem ReadyToSend.congr {s t : State} (h : ReadyToSend s) (hseq : t.seq = s.seq) (htx : t.txRev = s.txRev) :
    ReadyToSend t := ⟨by rw [htx]; exact h.settled, by rw [hseq, htx]; exact h.pulse⟩

/-! ### At most one event, and no frame -/

/-- From `s` to `t` at most one event was made, and it is no frame. -/
def AddsNoFrame (s t : State) : Prop := t.txRev = s.txRev ∨ ∃ e, (∀ bs, e ≠ .send bs) ∧ t.txRev = e :: s.txRev

theorem AddsNoFrame.framesSettled {s t : State} (h : AddsNoFrame s t) (hs : FramesSettled s.txRev) :
    FramesSettled t.txRev := by
  rcases h with htx | ⟨e, he, htx⟩
  · rwa [htx]
  · rw [htx, framesSettled_cons]
    exact ⟨fun bs hsend => absurd hsend (he bs), hs⟩

theorem addsNoFrame_of_event {s t : State} {e : Event} (he : ∀ bs, e ≠ .send bs) (htx : t.txRev = e :: s.txRev) :
    AddsNoFrame s t := .inr ⟨e, he, htx⟩

/-- The ending of an exchange or an operation makes one event where the bus is held, and none where it is free (R209 (1)). -/
theorem conclude_txRev (r : Result) (s : State) :
    (conclude r s).txRev = if s.busHeld then .release :: s.txRev else s.txRev := by
  have henter (u : State) : (enterNegotiation u).txRev = u.txRev := by
    unfold enterNegotiation
    split <;> rfl
  unfold conclude
  dsimp only
  split <;> split <;> simp only [henter, endExchange_eq, finish_eq] <;> rfl

theorem addsNoFrame_conclude (r : Result) (s : State) : AddsNoFrame s (conclude r s) := by
  cases hheld : s.busHeld with
  | true => exact addsNoFrame_of_event (e := .release) (by simp) (by simp [conclude_txRev, hheld])
  | false => exact .inl (by simp [conclude_txRev, hheld])

theorem addsNoFrame_enterBlockCheck {s t : State} (h : AddsNoFrame s t) : AddsNoFrame s (enterBlockCheck t) := by
  unfold enterBlockCheck
  split <;> exact h

/-! ### What an instruction adds -/

theorem framesSettled_xr1 (c : BitVec 6) (a : BitVec 32) {s : State} (hs : FramesSettled s.txRev) :
    FramesSettled (xr1 c a s).txRev := by
  obtain ⟨⟨bs, htx⟩, -, -⟩ := xr1_spec c a s
  rw [List.append_assoc] at htx
  rw [txRev_of_tx htx]
  exact framesSettled_transactionBegun _ (List.forall_mem_map.mpr fun _ _ => rfl) hs

/-- A frame row that completes sends its frame right after the pulse (R156). -/
theorem framesSettled_execFrame48 {c : BitVec 6} {a : BitVec 32} {s t : State} (h : execFrame48 c a s = .next t)
    (hs : ReadyToSend s) : FramesSettled t.txRev := by
  obtain ⟨hseq, rfl⟩ := next_of_guard h
  rw [sendFrame, startPoll_eq]
  exact (framesSettled_cons _ _).mpr ⟨fun _ _ => hs.pulse hseq, hs.settled⟩

theorem addsNoFrame_statusAttempt {b : Byte} {s t : State} (h : statusAttempt b s = .next t) : AddsNoFrame s t := by
  obtain ⟨-, rfl⟩ := next_of_guard h
  exact addsNoFrame_of_event (e := .rx b) (by simp) rfl

theorem addsNoFrame_tokenAttempt {b : Byte} {s t : State} (h : tokenAttempt b s = .next t) : AddsNoFrame s t := by
  obtain ⟨-, rfl⟩ := next_of_guard h
  exact addsNoFrame_of_event (e := .rx b) (by simp) rfl

theorem addsNoFrame_endWith {r : Result} {s t : State} (h : endWith r s = .next t) : AddsNoFrame s t := by
  obtain ⟨-, rfl⟩ := next_of_guard h
  exact addsNoFrame_conclude r s

theorem addsNoFrame_execStValid {f : BitVec 7} {s t : State} (h : execStValid f s = .next t) : AddsNoFrame s t := by
  obtain ⟨-, rfl⟩ := next_of_guard h
  have hbyte : AddsNoFrame s (statusByte (statusOf f) s) := addsNoFrame_of_event (e := .rx (statusOf f)) (by simp) rfl
  split
  case isTrue => exact addsNoFrame_enterBlockCheck hbyte
  case isFalse => exact hbyte

theorem addsNoFrame_execR1 {f : BitVec 7} {s t : State} (h : execR1 f s = .next t) : AddsNoFrame s t := by
  obtain ⟨-, rfl⟩ := next_of_guard h
  exact addsNoFrame_conclude .success { s with resp := storeBytes [statusOf f] s.resp }

theorem addsNoFrame_execR3r7 {f : BitVec 7} {p1 p2 p3 p4 : Byte} {s t : State} (h : execR3r7 f p1 p2 p3 p4 s = .next t) :
    AddsNoFrame s t := by
  obtain ⟨-, rfl⟩ := next_of_guard h
  exact addsNoFrame_of_event (e := .rxn [p1, p2, p3, p4]) (by simp) rfl

/-- A frame row with a checksum field is the frame row once its checksum is checked (R89). -/
theorem execFrame48_of_cmdn {c : BitVec 6} {a : BitVec 32} {k : BitVec 7} {s t : State} (h : execCmdn c a k s = .next t) :
    execFrame48 c a s = .next t := by
  unfold execCmdn at h
  split at h
  case isTrue => exact h
  case isFalse => cases h

/-- Every instruction that completes leaves the frames settled. -/
theorem framesSettled_exec {i : Instr} {s t : State} (h : exec i s = .next t) (hs : ReadyToSend s) :
    FramesSettled t.txRev := by
  cases i with
  | crc7 m => rw [← exec_crc7_eq_next h]; exact hs.settled
  | frame c a => rw [← exec_frame_eq_next h]; exact hs.settled
  | xr1 c a =>
    have hload : FramesSettled (loadCommand c a s).txRev := hs.settled
    rw [← exec_xr1_eq_next h]
    exact framesSettled_xr1 c a hload
  | xcmd c a n => exact (exec_xcmd_transacts h).framesSettled hs.settled
  | rdblk a => exact (exec_rdblk_transacts h).framesSettled hs.settled
  | init b o n => exact (exec_init_transacts h).framesSettled hs.settled
  | reservedOp x => cases h
  | cmdn c a k => exact framesSettled_execFrame48 (execFrame48_of_cmdn h) hs
  | cmd0 => exact framesSettled_execFrame48 h hs
  | cmd8 => exact framesSettled_execFrame48 h hs
  | cmd55 => exact framesSettled_execFrame48 h hs
  | acmd41 => exact framesSettled_execFrame48 h hs
  | cmd58 => exact framesSettled_execFrame48 h hs
  | cmd17 a k => exact framesSettled_execFrame48 (execFrame48_of_cmdn (c := readCmd) h) hs
  | r1 f => exact (addsNoFrame_execR1 h).framesSettled hs.settled
  | r3r7 f p1 p2 p3 p4 => exact (addsNoFrame_execR3r7 h).framesSettled hs.settled
  | stValid f => exact (addsNoFrame_execStValid h).framesSettled hs.settled
  | stSkip x => exact (addsNoFrame_statusAttempt h).framesSettled hs.settled
  | tkFill => exact (addsNoFrame_tokenAttempt h).framesSettled hs.settled
  | tkStart => exact (addsNoFrame_tokenAttempt h).framesSettled hs.settled
  | tkOther b => exact (addsNoFrame_tokenAttempt h).framesSettled hs.settled
  | success => exact (addsNoFrame_endWith h).framesSettled hs.settled
  | timeout => exact (addsNoFrame_endWith h).framesSettled hs.settled
  | notSupported => exact (addsNoFrame_endWith h).framesSettled hs.settled
  | badResponse => exact (addsNoFrame_endWith h).framesSettled hs.settled
  | checksumError => cases h

/-! ### What a step adds -/

theorem addsNoFrame_beginExchange (ret : Seq) (c : BitVec 6) (a : BitVec 32) (n : Nat) (s : State) :
    AddsNoFrame s (beginExchange ret c a n s) := addsNoFrame_of_event (e := .acquire) (by simp) rfl

theorem addsNoFrame_beginAttempt (s : State) : AddsNoFrame s (beginAttempt s) :=
  addsNoFrame_beginExchange .iS3A 55#6 zeroArg 1 { s with attCnt := s.attCnt - 1 }

/-- At event grain an operation begins with one event or none, and every other instruction is run whole (D30). -/
theorem beginOperation_cases {i : Instr} {s t : State} (h : beginOperation i s = .next t) :
    AddsNoFrame s t ∨ exec i s = .next t := by
  cases i with
  | crc7 m =>
    obtain ⟨-, rfl⟩ := next_of_admission h
    exact .inl (.inl rfl)
  | xcmd c a n =>
    obtain ⟨-, rfl⟩ := next_of_admission h
    exact .inl (addsNoFrame_beginExchange .idle c a n s)
  | rdblk a =>
    obtain ⟨-, rfl⟩ := next_of_admission h
    exact .inl (addsNoFrame_of_event (e := .acquire) (by simp) rfl)
  | init b o n =>
    obtain ⟨-, rfl⟩ := next_of_admission h
    exact .inl (addsNoFrame_of_event (e := .cfg b .msbFirst .mode0) (by simp) rfl)
  | _ => exact .inr h

/-- A word that completes leaves the frames settled, at either grain. -/
theorem framesSettled_runWord {i : Instr} {s t : State} (h : runWord i s = .next t) (hs : ReadyToSend s) :
    FramesSettled t.txRev := by
  unfold runWord at h
  split at h
  case isFalse => cases h
  case isTrue =>
    split at h
    case h_1 => exact framesSettled_exec h hs
    case h_2 =>
      rcases beginOperation_cases h with hbegin | hexec
      · exact hbegin.framesSettled hs.settled
      · exact framesSettled_exec hexec hs

/-- What was fetched sends no frame of its own: an event of the sequencer is none, and taking a word makes no event and leaves
SEQ alone. -/
def Fetched.SendsNoFrame (s : State) : Fetched → Prop
  | .quiet => True
  | .act t => AddsNoFrame s t
  | .word _ t => t.seq = s.seq ∧ t.txRev = s.txRev

theorem addsNoFrame_crcAbsorb (s : State) : AddsNoFrame s (crcAbsorb s) := by
  unfold crcAbsorb
  split <;> exact .inl rfl

theorem fetchResponse_sendsNoFrame (s : State) : (fetchResponse s).SendsNoFrame s := by
  unfold fetchResponse
  split_ifs
  · exact ⟨rfl, rfl⟩
  · exact ⟨rfl, rfl⟩
  · exact addsNoFrame_of_event (e := .rxn (s.rxTake (s.rlen - 1))) (by simp) rfl

theorem sequencerEvent_sendsNoFrame (s : State) : (sequencerEvent s).SendsNoFrame s := by
  cases hseq : s.seq <;> simp only [sequencerEvent, hseq]
  case idle =>
    split
    · trivial
    · exact ⟨rfl, rfl⟩
  case cRun => exact addsNoFrame_crcAbsorb s
  case xAcq => exact addsNoFrame_of_event (e := .idle 1) (by simp) rfl
  case xPulse => exact ⟨rfl, rfl⟩
  case xSend => exact ⟨rfl, rfl⟩
  case xPoll =>
    split
    · exact fetchResponse_sendsNoFrame s
    · exact ⟨rfl, rfl⟩
  case bCheck => exact ⟨rfl, rfl⟩
  case bToken =>
    split
    · exact ⟨rfl, rfl⟩
    · exact addsNoFrame_of_event (e := .rxn (s.rxTake blockLen)) (by simp) rfl
  case bData => exact addsNoFrame_of_event (e := .rxn (s.rxTake 2)) (by simp) rfl
  case iCfg =>
    split
    · exact addsNoFrame_beginExchange .iS1 0#6 zeroArg 1 s
    · exact addsNoFrame_of_event (e := .idle s.cfg.preambleClocks) (by simp) rfl
  case iS1 => exact addsNoFrame_beginExchange .iS2 8#6 checkArg 5 s
  case iS2 => exact addsNoFrame_beginAttempt s
  case iS3A => exact addsNoFrame_beginExchange .iS3B 41#6 hcsArg 1 s
  case iS3B =>
    split
    · exact addsNoFrame_beginExchange .iS4 58#6 zeroArg 5 s
    · exact addsNoFrame_beginAttempt s
  case xPayload | xRel | bRel | iS5 => trivial
  case iS4 => exact addsNoFrame_of_event (e := .cfg s.ctxDiv .msbFirst .mode0) (by simp) rfl

theorem fetch_sendsNoFrame (s : State) : (fetch s).SendsNoFrame s := by
  unfold fetch
  split
  case h_1 => exact ⟨rfl, rfl⟩
  case h_2 => exact sequencerEvent_sendsNoFrame s

/-- Every step leaves the frames settled. -/
theorem framesSettled_step {s t : State} (h : step s = .next t) (hs : ReadyToSend s) : FramesSettled t.txRev := by
  have hfetched := fetch_sendsNoFrame s
  cases hfetch : fetch s with
  | quiet =>
    simp only [step, hfetch, Host.Outcome.next.injEq] at h
    exact h ▸ hs.settled
  | act u =>
    simp only [step, hfetch, Host.Outcome.next.injEq] at h
    rw [hfetch] at hfetched
    exact h ▸ AddsNoFrame.framesSettled hfetched hs.settled
  | word p u =>
    rw [hfetch] at hfetched
    obtain ⟨hseq, htx⟩ := hfetched
    cases hdecode : decode p with
    | error e => simp [step, hfetch, hdecode] at h
    | ok i =>
      rw [step_of_fetch_word hfetch hdecode] at h
      exact framesSettled_runWord h (hs.congr hseq htx)

/-- Settles O50: the discipline of TX in Inv settles the frames and tells what X_PULSE stands after, and every step and every
instruction keeps them settled. -/
theorem settlingPulseBeforeEveryFrame : Obligations.SettlingPulseBeforeEveryFrame :=
  ⟨fun _ _ hinv h => framesSettled_step h (readyToSend_of_inv hinv),
    fun _ _ _ hinv h => framesSettled_exec h (readyToSend_of_inv hinv)⟩

end Sys2Proof.Machine

/-! PROOFS. Encoding (30_encoding.md): the word the encoder writes is read back as the same instruction, and, where no operand
is dropped, the word an instruction was read from is the one the encoder writes. -/

namespace Sys2Proof.Machine

/-- Settles O1: constructor by constructor, the encoder's word at its own port. -/
theorem decodeEncodeRoundTrip : Obligations.DecodeEncodeRoundTrip := by
  intro i
  cases i with
  | crc7 m => exact Laws.RoundTrip.crc7 m
  | frame c a => exact Laws.RoundTrip.frame c a
  | xr1 c a => exact Laws.RoundTrip.xr1 c a
  | xcmd c a n => exact Laws.RoundTrip.xcmd c a n
  | rdblk a => exact Laws.RoundTrip.rdblk a
  | init b o n => exact Laws.RoundTrip.init b o n
  | reservedOp x => exact Laws.RoundTrip.reservedOp x
  | cmdn c a k => exact Laws.RoundTrip.cmdn c a k
  | cmd0 => exact Laws.RoundTrip.cmd0
  | cmd8 => exact Laws.RoundTrip.cmd8
  | cmd55 => exact Laws.RoundTrip.cmd55
  | acmd41 => exact Laws.RoundTrip.acmd41
  | cmd58 => exact Laws.RoundTrip.cmd58
  | cmd17 a k => exact Laws.RoundTrip.cmd17 a k
  | r1 f => exact Laws.RoundTrip.r1 f
  | r3r7 f p1 p2 p3 p4 => exact Laws.RoundTrip.r3r7 f p1 p2 p3 p4
  | stValid f => exact Laws.RoundTrip.stValid f
  | stSkip x => exact Laws.RoundTrip.stSkip x
  | tkFill => exact Laws.RoundTrip.tkFill
  | tkStart => exact Laws.RoundTrip.tkStart
  | tkOther t => exact Laws.RoundTrip.tkOther t
  | success => exact Laws.RoundTrip.success
  | timeout => exact Laws.RoundTrip.timeout
  | notSupported => exact Laws.RoundTrip.notSupported
  | badResponse => exact Laws.RoundTrip.badResponse
  | checksumError => exact Laws.RoundTrip.checksumError

/-! ### No bit of a word is lost -/

/-- A one-bit field is the bit. -/
theorem extractLsb'_one_eq (b : Bool) {w : Nat} {x : BitVec w} {j : Nat} (h : x.getLsbD j = b) :
    x.extractLsb' j 1 = BitVec.ofBool b := by
  apply BitVec.eq_of_getLsbD_eq
  intro i hi
  obtain rfl : i = 0 := by omega
  simp [h]

/-- A frame is its fields, once its framing bits are those of R80. -/
theorem frameBits_fields {w : BitVec 48} (hstart : w.extractLsb' 46 2 = 1#2) (hstop : w.extractLsb' 0 1 = 1#1) :
    frameBits (w.extractLsb' 40 6) (w.extractLsb' 8 32) (w.extractLsb' 1 7) = w := by
  rw [frameBits, ← hstart, ← hstop,
    BitVec.extractLsb'_append_extractLsb'_eq_extractLsb' (show 46 = 40 + 6 from rfl),
    BitVec.extractLsb'_append_extractLsb'_eq_extractLsb' (show 40 = 8 + 32 from rfl),
    BitVec.extractLsb'_append_extractLsb'_eq_extractLsb' (show 8 = 1 + 7 from rfl),
    BitVec.extractLsb'_append_extractLsb'_eq_extractLsb' (show 1 = 0 + 1 from rfl)]
  exact BitVec.extractLsb'_eq_self

/-- A byte is its top bit and its flags. -/
theorem append_flags_eq (v : Bool) {b : Byte} (h : b.getLsbD 7 = v) : BitVec.ofBool v ++ b.extractLsb' 0 7 = b := by
  rw [← extractLsb'_one_eq v h]
  exact BitVec.extractLsb'_append_extractLsb' (w := 1) (len := 7)

theorem encode_of_decodeFrame {w : BitVec 48} {i : Instr} (h : decodeFrame w = .ok i) : encode i = .frame48 w := by
  unfold decodeFrame at h
  split_ifs at h with hstart hstop h0 h8 h55 h41 h58 hread <;> cases h
  · rw [h0]; rfl
  · rw [h8]; rfl
  · rw [h55]; rfl
  · rw [h41]; rfl
  · rw [h58]; rfl
  · rw [encode, ← hread, frameBits_fields (not_not.mp hstart) (not_not.mp hstop)]
  · rw [encode, frameBits_fields (not_not.mp hstart) (not_not.mp hstop)]

theorem encode_of_decodeR1 {b : Byte} {i : Instr} (h : decodeR1 b = .ok i) : encode i = .respR1 b := by
  unfold decodeR1 at h
  split at h
  case isTrue => cases h
  case isFalse hvalid =>
    cases h
    rw [encode, ← append_flags_eq false (Bool.eq_false_iff.mpr hvalid), append_flags]
    rfl

theorem encode_of_decodeR3R7 {w : BitVec 40} {i : Instr} (h : decodeR3R7 w = .ok i) : encode i = .respR3R7 w := by
  unfold decodeR3R7 at h
  split at h
  case isTrue => cases h
  case isFalse hvalid =>
    cases h
    have htop : (0#1 : BitVec 1) = w.extractLsb' 39 1 := (extractLsb'_one_eq false (Bool.eq_false_iff.mpr hvalid)).symm
    rw [encode, htop,
      BitVec.extractLsb'_append_extractLsb'_eq_extractLsb' (show 39 = 32 + 7 from rfl),
      BitVec.extractLsb'_append_extractLsb'_eq_extractLsb' (show 32 = 24 + 8 from rfl),
      BitVec.extractLsb'_append_extractLsb'_eq_extractLsb' (show 24 = 16 + 8 from rfl),
      BitVec.extractLsb'_append_extractLsb'_eq_extractLsb' (show 16 = 8 + 8 from rfl),
      BitVec.extractLsb'_append_extractLsb'_eq_extractLsb' (show 8 = 0 + 8 from rfl)]
    exact congrArg PortWord.respR3R7 BitVec.extractLsb'_eq_self

theorem encode_decodeStatus (b : Byte) : encode (decodeStatus b) = .statusPoll b := by
  cases htop : b.getLsbD 7 with
  | false => rw [decodeStatus, htop]; exact congrArg PortWord.statusPoll (append_flags_eq false htop)
  | true => rw [decodeStatus, htop]; exact congrArg PortWord.statusPoll (append_flags_eq true htop)

theorem encode_decodeToken (b : Byte) : encode (decodeToken b) = .tokenPoll b := by
  unfold decodeToken
  split_ifs with hfiller hstart
  · rw [hfiller]; rfl
  · rw [hstart]; rfl
  · rfl

theorem encode_of_decodeResult {r : BitVec 3} {i : Instr} (h : decodeResult r = .ok i) : encode i = .resultCode r := by
  unfold decodeResult at h
  split_ifs at h with h0 h1 h2 h3 h4 <;> cases h
  · rw [h0]; rfl
  · rw [h1]; rfl
  · rw [h2]; rfl
  · rw [h3]; rfl
  · rw [h4]; rfl

/-- Settles O2: port by port, the fields an instruction was read from make up its word. -/
theorem decodedWordReencodes : Obligations.DecodedWordReencodes := by
  intro p i hport h
  cases p with
  | op c o => exact absurd rfl (hport c o)
  | frame48 w => exact encode_of_decodeFrame h
  | respR1 b => exact encode_of_decodeR1 h
  | respR3R7 w => exact encode_of_decodeR3R7 h
  | statusPoll b => cases h; exact encode_decodeStatus b
  | tokenPoll b => cases h; exact encode_decodeToken b
  | resultCode r => exact encode_of_decodeResult h

/-- Settles O3: each of the thirteen words is decoded. -/
theorem specWordsDecodeToTheirRows : Obligations.SpecWordsDecodeToTheirRows := by
  unfold Obligations.SpecWordsDecodeToTheirRows
  decide

/-- Settles O5: the two named bytes are computed, and every other byte falls through to TK_OTHER. -/
theorem tokenByteClasses : Obligations.TokenByteClasses := by
  refine ⟨by decide, by decide, fun b hfiller hstart => ?other⟩
  case other => rw [decode, decodeToken, if_neg (show b ≠ filler from hfiller), if_neg (show b ≠ startToken from hstart)]

end Sys2Proof.Machine

/-! PROOFS. The laws of the checksum (40_crc7.md R127) and what they say of a frame (41_framer.md). The generator is linear and,
on accumulators with bit 0 clear, injective; over GF(2) a bit step is a multiplication by x modulo the polynomial. -/

namespace Sys2Proof.Machine

open Spec Polynomial

/-! ### Linearity -/

theorem crcByte_xor (a a' b b' : Byte) : crcByte (a ^^^ a') (b ^^^ b') = crcByte a b ^^^ crcByte a' b' := by
  have hswap : (a ^^^ a') ^^^ (b ^^^ b') = (a ^^^ b) ^^^ (a' ^^^ b') := by ac_rfl
  rw [crcByte, hswap, crcSteps_xor]
  rfl

theorem crcBytes_append (acc : Byte) (m n : List Byte) : crcBytes acc (m ++ n) = crcBytes (crcBytes acc m) n :=
  List.foldl_append

theorem crc7_append (m n : List Byte) : crc7 (m ++ n) = crcBytes (crc7 m) n := crcBytes_append crcInit m n

/-- The accumulator is linear in its start and in the message together (R127 item 2). -/
theorem crcBytes_zipWith_xor (a a' : Byte) {m n : List Byte} (h : m.length = n.length) :
    crcBytes (a ^^^ a') (List.zipWith (· ^^^ ·) m n) = crcBytes a m ^^^ crcBytes a' n := by
  induction m generalizing a a' n with
  | nil =>
    obtain rfl : n = [] := List.length_eq_zero_iff.mp h.symm
    rfl
  | cons b m ih =>
    cases n with
    | nil => cases h
    | cons b' n =>
      calc crcBytes (crcByte (a ^^^ a') (b ^^^ b')) (List.zipWith (· ^^^ ·) m n)
          = crcBytes (crcByte a b ^^^ crcByte a' b') (List.zipWith (· ^^^ ·) m n) := by rw [crcByte_xor]
        _ = crcBytes (crcByte a b) m ^^^ crcBytes (crcByte a' b') n := ih _ _ (Nat.succ.inj h)

/-- Settles O10: both checksums start from 0x00, which is the exclusive-or of itself with itself. -/
theorem checksumIsLinear : Obligations.ChecksumIsLinear :=
  fun _ _ h => crcBytes_zipWith_xor crcInit crcInit h

/-- Zero bytes leave the start value as it is (R127 item 3). -/
theorem crcBytes_zeros (n : Nat) : crcBytes crcInit (List.replicate n 0#8) = crcInit := by
  induction n with
  | zero => rfl
  | succ n ih => exact ih

/-- Settles O11: every byte step clears bit 0, and leading zeros leave CRC_INIT. -/
theorem checksumBitZeroAndLeadingZeros : Obligations.ChecksumBitZeroAndLeadingZeros := by
  refine ⟨crc7_bit0, fun n m => ?zeros⟩
  rw [crc7, crcBytes_append, crcBytes_zeros, crc7]

/-! ### Injectivity -/

/-- A bit step loses only the bit that POLY puts back (R121). -/
theorem crcStep_eq_zero_iff (a : Byte) : crcStep a = 0#8 ↔ a = 0#8 ∨ a = poly := by
  revert a
  decide +kernel

/-- With bit 0 clear no number of bit steps clears an accumulator that is not clear. -/
theorem crcSteps_ne_zero (n : Nat) {a : Byte} (h0 : a.getLsbD 0 = false) (ha : a ≠ 0#8) : crcSteps n a ≠ 0#8 := by
  induction n generalizing a with
  | zero => exact ha
  | succ n ih =>
    refine ih (crcStep_bit0 a) fun hstep => ?_
    rcases (crcStep_eq_zero_iff a).mp hstep with rfl | rfl
    · exact ha rfl
    · revert h0; decide

/-- Different accumulators with bit 0 clear stay different through a byte. -/
theorem crcByte_injective {a a' : Byte} (b : Byte) (h : a.getLsbD 0 = false) (h' : a'.getLsbD 0 = false)
    (heq : crcByte a b = crcByte a' b) : a = a' := by
  by_contra hne
  have hbit0 : (a ^^^ a').getLsbD 0 = false := by rw [BitVec.getLsbD_xor, h, h']; rfl
  have hxor : a ^^^ a' ≠ 0#8 := fun hzero => hne (BitVec.xor_eq_zero_iff.mp hzero)
  refine crcSteps_ne_zero 8 hbit0 hxor ?_
  calc crcSteps 8 (a ^^^ a') = crcByte (a ^^^ a') (b ^^^ b) := by rw [crcByte, BitVec.xor_self, BitVec.xor_zero]
    _ = crcByte a b ^^^ crcByte a' b := crcByte_xor a a' b b
    _ = 0#8 := by rw [heq, BitVec.xor_self]

theorem crcBytes_injective {a a' : Byte} (m : List Byte) (h : a.getLsbD 0 = false) (h' : a'.getLsbD 0 = false)
    (heq : crcBytes a m = crcBytes a' m) : a = a' := by
  induction m generalizing a a' with
  | nil => exact heq
  | cons b m ih => exact crcByte_injective b h h' (ih (crcByte_bit0 a b) (crcByte_bit0 a' b) heq)

/-- A single bit put into a byte does not vanish in its eight bit steps. -/
theorem crcSteps_singleBit_ne_zero {j : Nat} (hj : j < 8) : crcSteps 8 (1#8 <<< j) ≠ 0#8 := by
  interval_cases j <;> decide

/-- Settles O13: the changed byte changes the accumulator by the bit's own eight steps, and the bytes after it are injective. -/
theorem singleBitChangeChangesChecksum : Obligations.SingleBitChangeChangesChecksum := by
  intro before after b j hj heq
  have hsplit (b' : Byte) : crc7 (before ++ b' :: after) = crcBytes (crcByte (crc7 before) b') after :=
    crc7_append before (b' :: after)
  rw [hsplit, hsplit] at heq
  have hbyte := crcBytes_injective after (crcByte_bit0 _ _) (crcByte_bit0 _ _) heq
  refine crcSteps_singleBit_ne_zero hj ?_
  have hchange : crcByte (crc7 before) (b ^^^ (1#8 <<< j)) = crcByte (crc7 before) b ^^^ crcSteps 8 (1#8 <<< j) := by
    rw [crcByte, ← BitVec.xor_assoc, crcSteps_xor, crcByte]
  exact (BitVec.xor_right_inj _).mp ((hchange.symm.trans hbyte).trans BitVec.xor_zero.symm)

/-- Settles O14: the appended byte equals the accumulator and clears it. -/
theorem messageWithItsChecksumHasResidueZero : Obligations.MessageWithItsChecksumHasResidueZero := by
  intro m
  rw [crc7_append]
  exact crcByte_self (crc7 m)

/-! ### The polynomial -/

/-- The coefficient of a bit (R120). -/
theorem bit_add (x y : Bool) (p : (ZMod 2)[X]) :
    (if (x ^^ y) = true then p else 0) = (if x = true then p else 0) + (if y = true then p else 0) := by
  cases x <;> cases y <;> simp [CharTwo.add_self_eq_zero]

/-- Exclusive-or is addition over GF(2). -/
theorem bytePoly_xor (a b : Byte) : bytePoly (a ^^^ b) = bytePoly a + bytePoly b := by
  simp only [bytePoly, BitVec.getLsbD_xor, bit_add, Finset.sum_add_distrib]

/-- The generator polynomial of R120. -/
noncomputable def crcPoly : (ZMod 2)[X] := X ^ 7 + X ^ 3 + 1

/-- A byte shifted is the byte times x, less the term shifted out. -/
theorem bytePoly_shiftLeft_one (a : Byte) :
    bytePoly (a <<< 1) = X * bytePoly a + (if a.getLsbD 7 = true then X ^ 8 else 0) := by
  have hlow : ∀ i ∈ Finset.range 7, (if (a <<< 1).getLsbD (i + 1) = true then X ^ (i + 1) else 0) =
      (X * (if a.getLsbD i = true then X ^ i else 0) : (ZMod 2)[X]) := by
    intro i hi
    have hlt : i + 1 < 8 := Nat.add_lt_add_right (Finset.mem_range.mp hi) 1
    simp only [BitVec.getLsbD_shiftLeft, decide_eq_true hlt, Nat.add_sub_cancel, pow_succ', mul_ite, mul_zero,
      show ¬(i + 1 < 1) by omega, decide_false, Bool.not_false, Bool.true_and]
  have hbit0 : (a <<< 1).getLsbD 0 = false := by simp
  have htop : X * (if a.getLsbD 7 = true then X ^ 7 else 0) + (if a.getLsbD 7 = true then X ^ 8 else 0) =
      (0 : (ZMod 2)[X]) := by
    split
    case isTrue => rw [← pow_succ', CharTwo.add_self_eq_zero]
    case isFalse => rw [mul_zero, add_zero]
  calc bytePoly (a <<< 1)
      = X * (Finset.range 7).sum (fun i => if a.getLsbD i = true then X ^ i else 0) := by
        rw [bytePoly, Finset.sum_range_succ', Finset.sum_congr rfl hlow, ← Finset.mul_sum, hbit0]
        simp only [Bool.false_eq_true, if_false, add_zero]
    _ = X * bytePoly a + (if a.getLsbD 7 = true then X ^ 8 else 0) := by
        rw [bytePoly, Finset.sum_range_succ _ 7, mul_add, add_assoc, htop, add_zero]

theorem bytePoly_crcTap : bytePoly crcTap = X ^ 4 + X := by
  simp [bytePoly, Finset.sum_range_succ, crcTap, poly, add_comm]

/-- A bit step multiplies by x, modulo x times the generator polynomial (R121, R127 item 4). -/
theorem bytePoly_crcStep (a : Byte) :
    bytePoly (crcStep a) = X * bytePoly a + (if a.getLsbD 7 = true then 1 else 0) * (X * crcPoly) := by
  unfold crcStep
  split
  case isTrue h =>
    rw [bytePoly_xor, bytePoly_shiftLeft_one, bytePoly_crcTap, if_pos h, crcPoly]
    ring
  case isFalse h => rw [bytePoly_shiftLeft_one, if_neg h]; ring

theorem bytePoly_crcSteps (n : Nat) (a : Byte) :
    ∃ q, bytePoly (crcSteps n a) = X ^ n * bytePoly a + q * (X * crcPoly) := by
  induction n generalizing a with
  | zero => exact ⟨0, by rw [crcSteps]; ring⟩
  | succ n ih =>
    obtain ⟨q, hq⟩ := ih (crcStep a)
    refine ⟨q + X ^ n * (if a.getLsbD 7 = true then 1 else 0), ?_⟩
    rw [crcSteps, hq, bytePoly_crcStep]
    ring

theorem msgPoly_concat (m : List Byte) (b : Byte) : msgPoly (m ++ [b]) = msgPoly m * X ^ 8 + bytePoly b := by
  simp [msgPoly]

/-- The accumulator, read as a byte, is the message times x^8 modulo x times the generator polynomial. -/
theorem exists_msgPoly_mul_eq (m : List Byte) :
    ∃ q, msgPoly m * X ^ 8 + q * (X * crcPoly) = bytePoly (crc7 m) := by
  induction m using List.reverseRecOn with
  | nil => exact ⟨0, by simp [msgPoly, crc7, crcBytes, crcInit, bytePoly]⟩
  | append_singleton m b ih =>
    obtain ⟨q, hq⟩ := ih
    obtain ⟨r, hr⟩ := bytePoly_crcSteps 8 (crc7 m ^^^ b)
    have hbyte : crc7 (m ++ [b]) = crcSteps 8 (crc7 m ^^^ b) := crc7_append m [b]
    refine ⟨X ^ 8 * q + r, ?_⟩
    rw [hbyte, hr, bytePoly_xor, ← hq, msgPoly_concat]
    ring

/-- With bit 0 clear, ACC as a byte is x times the remainder in its upper seven bits (R120). -/
theorem bytePoly_eq_mul_remPoly {a : Byte} (h : a.getLsbD 0 = false) : bytePoly a = X * remPoly a := by
  rw [bytePoly, remPoly, Finset.sum_range_succ', h, Finset.mul_sum]
  simp only [Bool.false_eq_true, if_false, add_zero, mul_ite, mul_zero, ← pow_succ']

/-- Settles O12: the byte's congruence, with its common factor x cancelled. -/
theorem checksumIsThePolynomialRemainder : Obligations.ChecksumIsThePolynomialRemainder := by
  intro m
  obtain ⟨q, hq⟩ := exists_msgPoly_mul_eq m
  rw [bytePoly_eq_mul_remPoly (crc7_bit0 m)] at hq
  refine ⟨-q, mul_left_cancel₀ X_ne_zero ?_⟩
  calc X * (msgPoly m * X ^ 7) = (msgPoly m * X ^ 8 + q * (X * crcPoly)) - q * (X * crcPoly) := by ring
    _ = X * remPoly (crc7 m) - q * (X * crcPoly) := by rw [hq]
    _ = X * (-q * (X ^ 7 + X ^ 3 + 1) + remPoly (crc7 m)) := by rw [crcPoly]; ring

/-! ### The frame -/

/-- Settles O17: the framer's layout is that of R140, letter by letter. -/
theorem frameWritesNothingElse : Obligations.FrameWritesNothingElse := fun s c a => exec_frame c a s

/-- Settles O15: the admission passes on an idle block with the bus free (R213), and CRC7 writes its two registers. -/
theorem crc7Completes : Obligations.Crc7Completes := by
  intro s m hfree
  change execCrc7 m s = _
  rw [execCrc7, (admitted_eq_none_iff s).mpr hfree]
  rfl

/-- Byte 5 with the stop bit cleared is the checksum again (R89). -/
theorem frameByte5_clearStop (c : BitVec 6) (a : BitVec 32) : frameByte5 c a &&& 0xFE#8 = frameSum c a := by
  have hclear : ∀ k : Byte, k.getLsbD 0 = false → (k ||| stopBit) &&& 0xFE#8 = k := by decide
  exact hclear _ (crc7_bit0 _)

/-- The stop bit, where bit 0 is clear, is exclusive-or-ed in (R89). -/
theorem frameByte5_eq_xor (c : BitVec 6) (a : BitVec 32) : frameByte5 c a = frameSum c a ^^^ stopBit := by
  have hset : ∀ k : Byte, k.getLsbD 0 = false → k ||| stopBit = k ^^^ stopBit := by decide
  exact hset _ (crc7_bit0 _)

/-- Settles O18: with the stop bit cleared the message carries its own checksum; set, it adds its own eight bit steps. -/
theorem frameResidues : Obligations.FrameResidues := by
  refine fun c a => ⟨?cleared, ?set⟩
  case cleared =>
    rw [frameByte5_clearStop]
    exact messageWithItsChecksumHasResidueZero (frameHead c a)
  case set =>
    have hmessage : (frameBytes c a).toList = frameHead c a ++ [frameByte5 c a] := rfl
    rw [hmessage, crc7_append, frameByte5_eq_xor]
    change crcByte (frameSum c a) (frameSum c a ^^^ stopBit) = _
    rw [crcByte, ← BitVec.xor_assoc, BitVec.xor_self]
    decide

/-- The command index stands in byte 0 under the leading bits (R87). -/
theorem frameByte0_eq_append (c : BitVec 6) : frameByte0 c = 1#2 ++ c := by
  revert c
  decide

/-- The checksum field and the stop bit make up byte 5 (R89, R142). -/
theorem frameK_append_stop (c : BitVec 6) (a : BitVec 32) : frameK c a ++ 1#1 = frameByte5 c a := by
  have hbyte : ∀ k : Byte, (k.extractLsb' 1 7 ++ 1#1 : Byte) = k ||| stopBit := by decide
  exact hbyte (frameSum c a)

/-- The 48 bits with the fields gathered into byte 0, the argument and byte 5. -/
theorem frameWord_eq_append (c : BitVec 6) (a : BitVec 32) : frameWord c a = (frameByte0 c ++ a) ++ frameByte5 c a := by
  rw [frameWord, frameBits, BitVec.append_assoc, frameK_append_stop, frameByte0_eq_append]
  rfl

/-- The argument is its four bytes (R88). -/
theorem argBytes_append (a : BitVec 32) : ((argByte3 a ++ argByte2 a) ++ argByte1 a) ++ argByte0 a = a := by
  rw [argByte3, argByte2, argByte1, argByte0,
    BitVec.extractLsb'_append_extractLsb'_eq_extractLsb' (show 24 = 16 + 8 from rfl),
    BitVec.extractLsb'_append_extractLsb'_eq_extractLsb' (show 16 = 8 + 8 from rfl),
    BitVec.extractLsb'_append_extractLsb'_eq_extractLsb' (show 8 = 0 + 8 from rfl)]
  exact BitVec.extractLsb'_eq_self

theorem bytesOfFrame_frameWord (c : BitVec 6) (a : BitVec 32) : bytesOfFrame (frameWord c a) = (frameBytes c a).toList := by
  rw [frameWord_eq_append]
  have h0 : ((frameByte0 c ++ a) ++ frameByte5 c a).extractLsb' 40 8 = frameByte0 c := by
    rw [BitVec.extractLsb'_append_eq_of_le (by decide)]
    exact BitVec.extractLsb'_append_eq_left
  have harg (j : Nat) (h : j + 8 ≤ 32) :
      ((frameByte0 c ++ a) ++ frameByte5 c a).extractLsb' (j + 8) 8 = a.extractLsb' j 8 := by
    rw [BitVec.extractLsb'_append_eq_of_le (by omega), Nat.add_sub_cancel, BitVec.extractLsb'_append_eq_of_add_le h]
  have h5 : ((frameByte0 c ++ a) ++ frameByte5 c a).extractLsb' 0 8 = frameByte5 c a := BitVec.extractLsb'_append_eq_right
  rw [bytesOfFrame, h0, harg 24 (by decide), harg 16 (by decide), harg 8 (by decide), harg 0 (by decide), h5]
  rfl

/-- Settles O19: the word's bytes are the frame's, and the frame's first five give back the command and the argument. -/
theorem frameWordIsWireOrderAndInjective : Obligations.FrameWordIsWireOrderAndInjective := by
  refine ⟨bytesOfFrame_frameWord, fun c c' a a' h => ?fields⟩
  change [frameByte0 c, argByte3 a, argByte2 a, argByte1 a, argByte0 a, frameByte5 c a] =
    [frameByte0 c', argByte3 a', argByte2 a', argByte1 a', argByte0 a', frameByte5 c' a'] at h
  simp only [List.cons.injEq] at h
  obtain ⟨h0, h3, h2, h1, h0', -⟩ := h
  refine ⟨?command, ?argument⟩
  case command =>
    rw [frameByte0_eq_append, frameByte0_eq_append] at h0
    exact (BitVec.append_right_inj _).mp h0
  case argument => rw [← argBytes_append a, h3, h2, h1, h0', argBytes_append]

end Sys2Proof.Machine

/-! PROOFS. What an exchange and a block read leave, register by register (42_exchange.md sections 1 to 4, 44_block_read.md):
XR1's poll ends after some number of attempts, and everything else follows from that number and the bytes of RX. -/

namespace Sys2Proof.Machine

open Spec

/-! ### Admission -/

/-- What the admission rules refuse of a busy block (R213 (a)). -/
theorem admitted_of_busy {s : State} (h : s.seq ≠ .idle) : admitted s = some .busy := if_pos h

/-- What the admission rules refuse of an idle block whose bus is held (R213 (b)). -/
theorem admitted_of_busHeld {s : State} (hseq : s.seq = .idle) (h : s.busHeld = true) : admitted s = some .busAlreadyHeld := by
  simp [admitted, hseq, h]

theorem xcmdAdmitted_of_refused {s : State} {r : Refusal} (n : Nat) (h : admitted s = some r) : xcmdAdmitted n s = some r := by
  rw [xcmdAdmitted, h]

theorem rdblkAdmitted_of_refused {s : State} {r : Refusal} (h : admitted s = some r) : rdblkAdmitted s = some r := by
  rw [rdblkAdmitted, h]

/-- XCMD's own conditions on an admitted block (R94, R213 (c)). -/
theorem xcmdAdmitted_of_free {s : State} (n : Nat) (h : Free s) :
    xcmdAdmitted n s = if !s.ctxValid then some .noContext else if !legalRlen n then some .badResponseLength else none := by
  rw [xcmdAdmitted, (admitted_eq_none_iff s).mpr h]

theorem rdblkAdmitted_of_free {s : State} (h : Free s) : rdblkAdmitted s = if !s.ctxValid then some .noContext else none := by
  rw [rdblkAdmitted, (admitted_eq_none_iff s).mpr h]

theorem legalRlen_iff (n : Nat) : legalRlen n = true ↔ 1 ≤ n ∧ n ≤ 5 := by simp [legalRlen]

/-- An instruction behind an admission is refused as the admission says. -/
theorem exec_crc7_of_refused {s : State} {r : Refusal} (m : List Byte) (h : admitted s = some r) :
    exec (.crc7 m) s = .refused r := by
  change execCrc7 m s = _
  rw [execCrc7, h]

theorem exec_xcmd_of_refused {s : State} {r : Refusal} {c : BitVec 6} {a : BitVec 32} {n : Nat}
    (h : xcmdAdmitted n s = some r) : exec (.xcmd c a n) s = .refused r := by
  change execXcmd c a n s = _
  rw [execXcmd, h]

theorem exec_rdblk_of_refused {s : State} {r : Refusal} {a : BitVec 32} (h : rdblkAdmitted s = some r) :
    exec (.rdblk a) s = .refused r := by
  change execRdblk a s = _
  rw [execRdblk, h]

theorem exec_init_of_refused {s : State} {r : Refusal} (b o : Div) (n : Nat) (h : admitted s = some r) :
    exec (.init b o n) s = .refused r := by
  change execInit b o n s = _
  rw [execInit, h]

/-- XR1's precondition, a free bus and a context (R152). -/
theorem exec_xr1 (c : BitVec 6) (a : BitVec 32) (s : State) :
    exec (.xr1 c a) s = if s.busHeld then .refused .busAlreadyHeld else if !s.ctxValid then .refused .noContext
      else .next (deliverOutcome (xr1 c a (loadCommand c a s))) := rfl

/-- Settles O23: the admission lemma of each operation, at the condition that fails first. -/
theorem refusedRequests : Obligations.RefusedRequests := by
  refine ⟨fun s m h => exec_crc7_of_refused m (admitted_of_busy h),
    fun s c a l h => exec_xcmd_of_refused (xcmdAdmitted_of_refused l (admitted_of_busy h)),
    fun s a h => exec_rdblk_of_refused (rdblkAdmitted_of_refused (admitted_of_busy h)),
    fun s b o n h => exec_init_of_refused b o n (admitted_of_busy h),
    fun s c a l h hctx => exec_xcmd_of_refused (by simp [xcmdAdmitted_of_free l h, hctx]),
    fun s a h hctx => exec_rdblk_of_refused (by simp [rdblkAdmitted_of_free h, hctx]),
    fun s c a l h hctx hl => exec_xcmd_of_refused ?length, ?held,
    fun s c a h => by simp [exec_xr1, h], fun s c a h hctx => by simp [exec_xr1, h, hctx]⟩
  case length =>
    have hillegal : legalRlen l = false := by
      rw [Bool.eq_false_iff, ne_eq, legalRlen_iff]
      omega
    simp [xcmdAdmitted_of_free l h, hctx, hillegal]
  case held =>
    intro s i hseq hheld hi
    have hrefused := admitted_of_busHeld hseq hheld
    rcases hi with ⟨m, rfl⟩ | ⟨c, a, l, rfl⟩ | ⟨a, rfl⟩ | ⟨b, o, n, rfl⟩
    · exact exec_crc7_of_refused m hrefused
    · exact exec_xcmd_of_refused (xcmdAdmitted_of_refused l hrefused)
    · exact exec_rdblk_of_refused (rdblkAdmitted_of_refused hrefused)
    · exact exec_init_of_refused b o n hrefused

theorem xcmdAdmitted_eq_none {s : State} {n : Nat} (hfree : Free s) (hctx : s.ctxValid = true) (hn : 1 ≤ n) (hn' : n ≤ 5) :
    xcmdAdmitted n s = none := by
  simp [xcmdAdmitted_of_free n hfree, hctx, (legalRlen_iff n).mpr ⟨hn, hn'⟩]

theorem exec_xcmd {s : State} (c : BitVec 6) (a : BitVec 32) {n : Nat} (hfree : Free s) (hctx : s.ctxValid = true)
    (hn : 1 ≤ n) (hn' : n ≤ 5) : exec (.xcmd c a n) s = .next (xcmdCall .idle c a n s) := by
  change execXcmd c a n s = _
  rw [execXcmd, xcmdAdmitted_eq_none hfree hctx hn hn']

/-! ### XR1's poll -/

/-- Where XR1's status poll begins, register by register (R152 to R154). -/
theorem commandSent_eq (c : BitVec 6) (a : BitVec 32) (s : State) :
    commandSent c a s = { s with
      seq := .xSend, busHeld := true, frameBuf := frame c a, acc := frameCheck c a, crcOut := frameCheck c a,
      pollCnt := s.ctxTb, status := if s.ctxTb = 0 then Config.freeByte s.draw else s.status,
      draw := if s.ctxTb = 0 then s.draw + 1 else s.draw,
      txRev := .send (frame c a).toList :: .idle 1 :: .acquire :: s.txRev } := by
  rw [commandSent, sendFrame, startPoll_eq]
  rfl

/-- The events of a transaction up to its release. -/
def openTransaction (c : BitVec 6) (a : BitVec 32) (receptions : List Event) : List Event :=
  [.acquire, .idle 1, .send (frame c a).toList] ++ receptions

/-- What XR1 leaves after `n` attempts, with the last byte `st` in STATUS and `d` draws made (R152 to R154). -/
def polled (c : BitVec 6) (a : BitVec 32) (n : Nat) (st : Byte) (d : Nat) (s : State) : State :=
  { s with
    seq := if n = 0 then .xSend else .xPoll, busHeld := true,
    frameBuf := frame c a, acc := frameCheck c a, crcOut := frameCheck c a,
    pollCnt := s.ctxTb - n, status := st, draw := d, rx := s.rx.drop n, rxPos := s.rxPos + n,
    txRev := extend s (openTransaction c a ((rxFrom s 0 n).map .rx)) }

/-- XR1 without a valid byte makes CTX_TB attempts; STATUS is a draw where that is none (R153, R154). -/
theorem exists_xr1_eq_polled (c : BitVec 6) (a : BitVec 32) {s : State} (h : AllSkip s 0 s.ctxTb) :
    ∃ (st : Byte) (d : Nat), xr1 c a s = polled c a s.ctxTb st d s ∧
      (s.ctxTb ≠ 0 → st = s.rxAt (s.ctxTb - 1) ∧ d = s.draw) := by
  rw [xr1_of_allSkip c a h]
  cases htb : s.ctxTb with
  | zero =>
    refine ⟨Config.freeByte s.draw, s.draw + 1, ?_, fun hne => absurd rfl hne⟩
    rw [afterStatusBytes, commandSent_eq, polled, htb]
    rfl
  | succ n =>
    refine ⟨s.rxAt n, s.draw, ?_, fun _ => ⟨rfl, rfl⟩⟩
    rw [afterStatusBytes_succ, commandSent_rxTake, commandSent_rxAt, commandSent_eq]
    simp [polled, htb, extend, openTransaction, rxFrom_zero]

/-- XR1 with its first valid byte at `k` makes `k + 1` attempts (R153). -/
theorem xr1_eq_polled (c : BitVec 6) (a : BitVec 32) {s : State} {k : Nat} (hk : k < s.ctxTb) (h : FirstValid s 0 k) :
    xr1 c a s = polled c a (k + 1) (s.rxAt k) s.draw s := by
  rw [xr1_of_firstValid c a hk h, afterStatusBytes_succ, commandSent_rxTake, commandSent_rxAt, commandSent_eq]
  simp [polled, Nat.ne_zero_of_lt hk, extend, openTransaction, rxFrom_zero]

/-- Settles O24: XR1's two endings, and the class read off them. -/
theorem xr1LeavesTheBusHeld : Obligations.Xr1LeavesTheBusHeld := by
  intro s c a hfree hctx
  have hexec : exec (.xr1 c a) s = .next (deliverOutcome (xr1 c a (loadCommand c a s))) := by simp [exec_xr1, hfree, hctx]
  refine ⟨fun k hk hvalid => ?found, fun hskip => ?timeout⟩
  case found =>
    have hbound : k < (loadCommand c a s).ctxTb := hk
    rw [hexec, deliverOutcome, pollOutcome_xr1_of_firstValid c a hbound hvalid, xr1_eq_polled c a hbound hvalid]
    rfl
  case timeout =>
    have hload : AllSkip (loadCommand c a s) 0 (loadCommand c a s).ctxTb := hskip
    obtain ⟨st, d, heq, hpolled⟩ := exists_xr1_eq_polled c a hload
    refine ⟨st, d, ?_, hpolled⟩
    rw [hexec, deliverOutcome, pollOutcome_xr1_of_allSkip c a hload, heq, polled, Nat.sub_self]
    rfl

/-! ### The exchange -/

/-- The bytes of RX from `p` on, first byte first. -/
theorem rxFrom_succ (s : State) (p n : Nat) : rxFrom s p (n + 1) = s.rxAt p :: rxFrom s (p + 1) n := by
  simp [rxFrom, List.range_succ_eq_map, Function.comp_def, Nat.add_assoc, Nat.add_comm 1]

theorem rxFrom_getD (s : State) (p n i : Nat) (d : Byte) :
    (rxFrom s p n).getD i d = if i < n then s.rxAt (p + i) else d := by
  split <;> simp [rxFrom, List.getD_eq_getElem?_getD, *]

/-- RESP after the bytes of RX from `p` on are stored (R52). -/
theorem storeBytes_rxFrom (s : State) (p n : Nat) (old : Vector Byte 5) :
    storeBytes (rxFrom s p n) old = Vector.ofFn (fun i : Fin 5 => if i.val < n then s.rxAt (p + i.val) else old[i]) := by
  simp only [storeBytes, rxFrom_getD]

/-- Where RX stands at offset `p`, the next bytes are those from `p` on. -/
theorem rxTake_eq_rxFrom {s u : State} {p : Nat} (h : ∀ i, u.rxAt i = s.rxAt (p + i)) (n : Nat) :
    u.rxTake n = rxFrom s p n := by
  have hbyte : u.rxAt = fun i => s.rxAt (p + i) := funext h
  rw [State.rxTake, rxFrom, hbyte]

theorem rxTake_polled (c : BitVec 6) (a : BitVec 32) (n m : Nat) (st : Byte) (d : Nat) (s : State) :
    (polled c a n st d s).rxTake m = rxFrom s n m := rxTake_eq_rxFrom (rxAt_rxDrop s n) m

/-- The response of one byte, after an XR1 that found it (R155). -/
theorem endExchange_storeStatus_polled (c : BitVec 6) (a : BitVec 32) (k d : Nat) (s : State) :
    endExchange .success (storeStatus (polled c a (k + 1) (s.rxAt k) d s)) =
      { polled c a (k + 1) (s.rxAt k) d s with
        seq := s.ret, busHeld := false, result := .success, resp := storeBytes (rxFrom s k 1) s.resp,
        txRev := extend s (transaction c a ((rxFrom s 0 (k + 1)).map .rx)) } := by
  rw [endExchange_eq]
  simp [storeStatus, polled, extend, openTransaction, transaction, rxFrom]

/-- The response of more than one byte, after an XR1 that found the first (R155). -/
theorem endExchange_takePayload_polled (c : BitVec 6) (a : BitVec 32) (k d m : Nat) (s : State) :
    endExchange .success (takePayload (m + 1) (polled c a (k + 1) (s.rxAt k) d s)) =
      { polled c a (k + 1) (s.rxAt k) d s with
        seq := s.ret, busHeld := false, result := .success, resp := storeBytes (rxFrom s k (m + 1)) s.resp,
        rx := s.rx.drop (k + (m + 1)), rxPos := s.rxPos + (k + (m + 1)),
        txRev := extend s (transaction c a ((rxFrom s 0 (k + 1)).map .rx ++ [.rxn (rxFrom s (k + 1) m)])) } := by
  rw [endExchange_eq, takePayload, Nat.add_sub_cancel, rxTake_polled, rxFrom_succ]
  simp [storeResponse, emit, State.rxDrop, polled, extend, openTransaction, transaction, Nat.add_assoc, Nat.add_comm 1]

/-- An exchange that finds its status byte at `k` takes its response from there (R155). -/
theorem xcmdCall_of_firstValid (ret : Seq) (c : BitVec 6) (a : BitVec 32) {l k : Nat} {s : State} (hl : 1 ≤ l)
    (hk : k < s.ctxTb) (h : FirstValid s 0 k) :
    xcmdCall ret c a l s = { s with
      cmd := c, arg := a, rlen := l, ret := ret, seq := ret, busHeld := false,
      frameBuf := frame c a, acc := frameCheck c a, crcOut := frameCheck c a,
      pollCnt := s.ctxTb - (k + 1), status := s.rxAt k,
      resp := Vector.ofFn (fun i : Fin 5 => if i.val < l then s.rxAt (k + i.val) else s.resp[i]),
      result := .success,
      rx := s.rx.drop (k + l), rxPos := s.rxPos + (k + l),
      txRev := extend s (transaction c a ((rxFrom s 0 (k + 1)).map .rx ++
        (if l = 1 then [] else [.rxn (rxFrom s (k + 1) (l - 1))]))) } := by
  have hbound : k < (loadExchange ret c a l s).ctxTb := hk
  have hvalid : FirstValid (loadExchange ret c a l s) 0 k := h
  obtain ⟨m, rfl⟩ := Nat.exists_eq_add_of_le' hl
  rw [xcmdCall, xcmdBody, pollOutcome_xr1_of_firstValid c a hbound hvalid, xr1_eq_polled c a hbound hvalid,
    ← storeBytes_rxFrom]
  simp only [ne_eq, not_true_eq_false, if_false]
  split
  case isTrue hone =>
    obtain rfl : m = 0 := Nat.succ.inj hone
    rw [endExchange_storeStatus_polled, List.append_nil]
    rfl
  case isFalse => exact endExchange_takePayload_polled c a k _ m _

/-- An exchange without a valid byte makes all its attempts and leaves RESP a draw (R155). -/
theorem exists_xcmdCall_of_allSkip (ret : Seq) (c : BitVec 6) (a : BitVec 32) (l : Nat) {s : State}
    (h : AllSkip s 0 s.ctxTb) :
    ∃ (st : Byte) (drawn : Vector Byte 5) (d : Nat),
      xcmdCall ret c a l s = { s with
        cmd := c, arg := a, rlen := l, ret := ret, seq := ret, busHeld := false,
        frameBuf := frame c a, acc := frameCheck c a, crcOut := frameCheck c a,
        pollCnt := 0, status := st, resp := drawn, draw := d,
        result := .timeout,
        rx := s.rx.drop s.ctxTb, rxPos := s.rxPos + s.ctxTb,
        txRev := extend s (transaction c a ((rxFrom s 0 s.ctxTb).map .rx)) } ∧
      (s.ctxTb ≠ 0 → st = s.rxAt (s.ctxTb - 1)) := by
  have hload : AllSkip (loadExchange ret c a l s) 0 (loadExchange ret c a l s).ctxTb := h
  obtain ⟨st, d, heq, hpolled⟩ := exists_xr1_eq_polled c a hload
  refine ⟨st, (drawResp (xr1 c a (loadExchange ret c a l s))).resp, d + 5, ?_, fun hne => (hpolled hne).1⟩
  rw [xcmdCall, xcmdBody, pollOutcome_xr1_of_allSkip c a hload, if_pos (by decide), heq, endExchange_eq]
  simp [drawResp, polled, extend, openTransaction, transaction]
  rfl

/-- Every status poll finds its first valid byte within its attempts, or none (R153). -/
theorem exists_firstValid_or_allSkip (s : State) (p n : Nat) : (∃ k, k < n ∧ FirstValid s p k) ∨ AllSkip s p n := by
  rcases firstValid_or_none n (s.rxDrop p) with ⟨k, hk, hskip, hvalid⟩ | hskip
  · refine .inl ⟨k, hk, fun j hj => ?_, ?_⟩
    · simpa [validStatus_eq_false_iff] using hskip j hj
    · simpa [validStatus_iff] using hvalid
  · exact .inr fun j hj => by simpa [validStatus_eq_false_iff] using hskip j hj

/-- Settles O20: the exchange that finds its byte, called by the host. -/
theorem xcmdSuccess : Obligations.XcmdSuccess := by
  intro s c a l k hfree hctx hl hl' hk hvalid
  rw [exec_xcmd c a hfree hctx hl hl', xcmdCall_of_firstValid .idle c a hl hk hvalid]
  obtain ⟨hseq, hheld⟩ := hfree
  simp only [hseq, hheld]

/-- Settles O21: the exchange without a valid byte, called by the host. -/
theorem xcmdTimeout : Obligations.XcmdTimeout := by
  intro s c a l hfree hctx hl hl' hskip
  obtain ⟨st, drawn, d, heq, hst⟩ := exists_xcmdCall_of_allSkip .idle c a l hskip
  refine ⟨st, drawn, d, ?_, hst⟩
  rw [exec_xcmd c a hfree hctx hl hl', heq]
  obtain ⟨hseq, hheld⟩ := hfree
  simp only [hseq, hheld]

/-- A transaction acquires the bus first and releases it last, with neither between. -/
theorem exists_middle_of_transaction (c : BitVec 6) (a : BitVec 32) {rs : List Event}
    (hrs : ∀ e ∈ rs, isReception e = true) {s t : State} (htx : t.tx = s.tx ++ transaction c a rs) :
    ∃ middle, t.tx = s.tx ++ [.acquire] ++ middle ++ [.release] ∧ acquires middle = 0 ∧ releases middle = 0 := by
  refine ⟨[.idle 1, .send (frame c a).toList] ++ rs, ?_, ?_, ?_⟩
  · simp [htx, transaction]
  · rw [acquires_append, acquires_receptions hrs]; rfl
  · rw [releases_append, releases_receptions hrs]; rfl

/-- Settles O22: one transaction whatever RX answers, and the class and the bytes taken by the poll's two endings. -/
theorem xcmdAlwaysEnds : Obligations.XcmdAlwaysEnds := by
  intro s c a l hfree hctx hl hl'
  obtain ⟨⟨rs, hrs, htx⟩, hheld, -⟩ := xcmdCall_spec .idle c a l s
  obtain ⟨middle, hevents, hacquires, hreleases⟩ := exists_middle_of_transaction c a hrs htx
  have hending : ((xcmdCall .idle c a l s).result = .success ∨ (xcmdCall .idle c a l s).result = .timeout) ∧
      (xcmdCall .idle c a l s).rxPos ≤ s.rxPos + s.ctxTb + 4 ∧ (xcmdCall .idle c a l s).seq = .idle := by
    rcases exists_firstValid_or_allSkip s 0 s.ctxTb with ⟨k, hk, hvalid⟩ | hskip
    · rw [xcmdCall_of_firstValid .idle c a hl hk hvalid]
      refine ⟨.inl rfl, ?_, rfl⟩
      dsimp only
      omega
    · obtain ⟨st, drawn, d, heq, -⟩ := exists_xcmdCall_of_allSkip .idle c a l hskip
      rw [heq]
      exact ⟨.inr rfl, Nat.le_add_right _ 4, rfl⟩
  obtain ⟨hresult, hbytes, hseq⟩ := hending
  exact ⟨_, middle, exec_xcmd c a hfree hctx hl hl', hresult, hbytes, hevents, hacquires, hreleases, hheld, hseq⟩

/-! ### The block read -/

/-- The bytes of RX in two runs, one after the other. -/
theorem rxFrom_append (s : State) (p m n : Nat) : rxFrom s p m ++ rxFrom s (p + m) n = rxFrom s p (m + n) := by
  simp [rxFrom, List.range_add, Nat.add_assoc, Function.comp_def]

/-- A block read that ends on its status byte, after `n` attempts (R191). -/
theorem finish_polled_read (r : Result) (n d : Nat) (st : Byte) (a : BitVec 32) (s : State) :
    finish r (polled readCmd a n st d (loadRead a s)) = { s with
      cmd := 17#6, arg := a, ret := .idle, seq := .idle, busHeld := false,
      frameBuf := frame 17#6 a, acc := frameCheck 17#6 a, crcOut := frameCheck 17#6 a,
      pollCnt := s.ctxTb - n, status := st, draw := d, result := r,
      rx := s.rx.drop n, rxPos := s.rxPos + n,
      txRev := extend s (transaction 17#6 a ((rxFrom s 0 n).map .rx)) } := by
  rw [finish_eq]
  simp [polled, loadRead, readCmd, extend, openTransaction, transaction]
  rfl

theorem rdblk_eq_of_badStatus (a : BitVec 32) {s : State} {k : Nat} (hk : k < s.ctxTb) (h : FirstValid s 0 k)
    (hbad : s.rxAt k ≠ 0x00#8) :
    rdblk a s = finish .badResponse (polled readCmd a (k + 1) (s.rxAt k) s.draw (loadRead a s)) := by
  have hbound : k < (loadRead a s).ctxTb := hk
  have hload : FirstValid (loadRead a s) 0 k := h
  rw [rdblk_of_badStatus a hk h hbad, ← xr1_of_firstValid readCmd a hbound hload, xr1_eq_polled readCmd a hbound hload]
  rfl

theorem exists_rdblk_eq_of_allSkip (a : BitVec 32) {s : State} (h : AllSkip s 0 s.ctxTb) :
    ∃ (st : Byte) (d : Nat), rdblk a s = finish .timeout (polled readCmd a s.ctxTb st d (loadRead a s)) ∧
      (s.ctxTb ≠ 0 → st = s.rxAt (s.ctxTb - 1) ∧ d = s.draw) := by
  have hload : AllSkip (loadRead a s) 0 (loadRead a s).ctxTb := h
  obtain ⟨st, d, heq, hpolled⟩ := exists_xr1_eq_polled readCmd a hload
  exact ⟨st, d, (rdblk_of_allSkip a h).trans (congrArg _ ((xr1_of_allSkip readCmd a hload).symm.trans heq)), hpolled⟩

/-- Settles O27: the two early endings, register by register. -/
theorem rdblkEarlyEndings : Obligations.RdblkEarlyEndings := by
  intro s a hfree hctx
  rw [exec_rdblk a hfree hctx]
  obtain ⟨hseq, hheld⟩ := hfree
  refine ⟨fun hskip => ?timeout, fun k hk hvalid hbad => ?badResponse⟩
  case timeout =>
    obtain ⟨st, d, heq, hpolled⟩ := exists_rdblk_eq_of_allSkip a hskip
    refine ⟨st, d, ?_, hpolled⟩
    rw [heq, finish_polled_read, Nat.sub_self]
    simp only [hseq, hheld]
  case badResponse =>
    rw [rdblk_eq_of_badStatus a hk hvalid hbad, finish_polled_read]
    simp only [hseq, hheld]

/-- What token poll attempts leave, for at least one attempt (R190, R192). -/
theorem afterTokenBytes_succ (n : Nat) (s : State) :
    afterTokenBytes (n + 1) s = { s with
      token := s.rxAt n, pollCnt := s.pollCnt - (n + 1), seq := .bToken,
      rx := s.rx.drop (n + 1), rxPos := s.rxPos + (n + 1), txRev := extend s ((s.rxTake (n + 1)).map .rx) } := by
  induction n generalizing s with
  | zero => simp [afterTokenBytes, tokenByte, emit, State.rxDrop, State.rxTake, extend]
  | succ n ih =>
    have htake : (tokenByte (s.rxAt 0) (s.rxDrop 1)).rxTake (n + 1) = (s.rxDrop 1).rxTake (n + 1) := rfl
    rw [afterTokenBytes, ih, htake, rxTake_succ s (n + 1), rxAt_tokenByte, rxAt_rxDrop]
    simp [tokenByte, emit, State.rxDrop, extend, Nat.sub_sub, Nat.add_assoc, Nat.add_comm 1]

/-- A block read after a status byte 0x00 at `k` and `n` token poll attempts, TOKEN holding `tok` (R190 to R192). -/
def tokenPolled (a : BitVec 32) (k n : Nat) (tok : Byte) (s : State) : State :=
  { s with
    cmd := 17#6, arg := a, ret := .bCheck, seq := if n = 0 then .xPoll else .bToken, busHeld := true,
    frameBuf := frame 17#6 a, acc := frameCheck 17#6 a, crcOut := frameCheck 17#6 a,
    pollCnt := s.cfg.tokenPolls - n, status := 0x00#8, token := tok,
    rx := s.rx.drop (k + 1 + n), rxPos := s.rxPos + (k + 1 + n),
    txRev := extend s (openTransaction 17#6 a ((rxFrom s 0 (k + 1 + n)).map .rx)) }

/-- A block read whose poll found the status byte 0x00 at `k` (R191). -/
def statusAccepted (a : BitVec 32) (k : Nat) (s : State) : State := polled readCmd a (k + 1) 0x00#8 s.draw (loadRead a s)

/-- Where the token poll begins (R190, R191). -/
def tokenPollBegun (a : BitVec 32) (k : Nat) (s : State) : State := loadTokenBudget (statusAccepted a k s)

@[simp] theorem tokenPollBegun_rxAt (a : BitVec 32) (k : Nat) (s : State) (i : Nat) :
    (tokenPollBegun a k s).rxAt i = s.rxAt (k + 1 + i) := rxAt_rxDrop s (k + 1) i

theorem tokenPollBegun_eq (a : BitVec 32) (k : Nat) (s : State) : tokenPollBegun a k s = tokenPolled a k 0 s.token s := rfl

theorem afterTokenBytes_tokenPollBegun (n : Nat) (a : BitVec 32) (k : Nat) (s : State) :
    afterTokenBytes (n + 1) (tokenPollBegun a k s) = tokenPolled a k (n + 1) (s.rxAt (k + 1 + n)) s := by
  have htake : (tokenPollBegun a k s).rxTake (n + 1) = rxFrom s (k + 1) (n + 1) :=
    rxTake_polled readCmd a (k + 1) (n + 1) 0x00#8 s.draw (loadRead a s)
  have hbytes := rxFrom_append s 0 (k + 1) (n + 1)
  rw [Nat.zero_add] at hbytes
  rw [afterTokenBytes_succ, htake, tokenPollBegun_rxAt, tokenPolled, ← hbytes, tokenPollBegun_eq]
  simp [tokenPolled, extend, openTransaction, Nat.add_assoc]

/-- RDBLK with a status byte 0x00 goes on to the token poll (R191, R192). -/
theorem rdblk_of_goodStatus (a : BitVec 32) {s : State} {k : Nat} (hk : k < s.ctxTb) (h : FirstValid s 0 k)
    (hgood : s.rxAt k = 0x00#8) :
    rdblk a s = readAfterStatus (statusAccepted a k s) := by
  have hbound : k < (loadRead a s).ctxTb := hk
  have hload : FirstValid (loadRead a s) 0 k := h
  have hbyte : (loadRead a s).rxAt k = 0x00#8 := hgood
  rw [rdblk, pollOutcome_xr1_of_firstValid readCmd a hbound hload, xr1_eq_polled readCmd a hbound hload, hbyte]
  rfl

theorem isFiller_iff (b : Byte) : isFiller b = true ↔ b = 0xFF#8 := decide_eq_true_iff

theorem readAfterStatus_of_tokenLoop {s u : State} {found : Bool}
    (h : tokenLoop s.cfg.tokenPolls (loadTokenBudget s) = (found, u)) :
    readAfterStatus s = if !found then finish .timeout u else if u.token ≠ startToken then finish .badResponse u
      else finish .success (readData u) := by
  rw [readAfterStatus, h]

/-- A token poll over filler only ends the block read with TIMEOUT after all its attempts (R192). -/
theorem rdblk_of_allFiller (a : BitVec 32) {s : State} {k : Nat} (hk : k < s.ctxTb) (h : FirstValid s 0 k)
    (hgood : s.rxAt k = 0x00#8) (hfiller : AllFiller s (k + 1) s.cfg.tokenPolls) :
    ∃ tok, rdblk a s = finish .timeout (tokenPolled a k s.cfg.tokenPolls tok s) ∧
      (s.cfg.tokenPolls ≠ 0 → tok = 0xFF#8) := by
  have hloop : tokenLoop s.cfg.tokenPolls (tokenPollBegun a k s) =
      (false, afterTokenBytes s.cfg.tokenPolls (tokenPollBegun a k s)) :=
    tokenLoop_timeout _ _ fun j hj => by rw [tokenPollBegun_rxAt, isFiller_iff]; exact hfiller j hj
  have hend : rdblk a s = finish .timeout (afterTokenBytes s.cfg.tokenPolls (tokenPollBegun a k s)) := by
    rw [rdblk_of_goodStatus a hk h hgood]
    exact readAfterStatus_of_tokenLoop (s := statusAccepted a k s) hloop
  cases hn : s.cfg.tokenPolls with
  | zero => exact ⟨s.token, by rw [hend, hn]; rfl, fun hne => absurd rfl hne⟩
  | succ n =>
    refine ⟨0xFF#8, ?_, fun _ => rfl⟩
    rw [hend, hn, afterTokenBytes_tokenPollBegun, hfiller n (by omega)]

/-- A token poll that finds a byte goes on to the token check (R193). -/
theorem rdblk_of_token (a : BitVec 32) {s : State} {k j : Nat} (hk : k < s.ctxTb) (h : FirstValid s 0 k)
    (hgood : s.rxAt k = 0x00#8) (hj : j < s.cfg.tokenPolls) (hfiller : AllFiller s (k + 1) j)
    (htoken : s.rxAt (k + 1 + j) ≠ 0xFF#8) :
    rdblk a s = if s.rxAt (k + 1 + j) ≠ 0xFE#8 then finish .badResponse (tokenPolled a k (j + 1) (s.rxAt (k + 1 + j)) s)
      else finish .success (readData (tokenPolled a k (j + 1) (s.rxAt (k + 1 + j)) s)) := by
  have hloop : tokenLoop s.cfg.tokenPolls (tokenPollBegun a k s) = (true, tokenPolled a k (j + 1) (s.rxAt (k + 1 + j)) s) := by
    rw [← afterTokenBytes_tokenPollBegun]
    refine tokenLoop_found _ j _ hj (fun i hi => ?_) ?_
    · rw [tokenPollBegun_rxAt, isFiller_iff]
      exact hfiller i hi
    · rw [tokenPollBegun_rxAt, Bool.eq_false_iff, ne_eq, isFiller_iff]
      exact htoken
  rw [rdblk_of_goodStatus a hk h hgood]
  exact readAfterStatus_of_tokenLoop (s := statusAccepted a k s) hloop

/-- A block read that ends in its token poll, after `n` attempts (R192, R193). -/
theorem finish_tokenPolled (r : Result) (a : BitVec 32) (k n : Nat) (tok : Byte) (s : State) :
    finish r (tokenPolled a k n tok s) = { s with
      cmd := 17#6, arg := a, ret := .idle, seq := .idle, busHeld := false,
      frameBuf := frame 17#6 a, acc := frameCheck 17#6 a, crcOut := frameCheck 17#6 a,
      pollCnt := s.cfg.tokenPolls - n, status := 0x00#8, token := tok, result := r,
      rx := s.rx.drop (k + 1 + n), rxPos := s.rxPos + (k + 1 + n),
      txRev := extend s (transaction 17#6 a ((rxFrom s 0 (k + 1 + n)).map .rx)) } := by
  rw [finish_eq]
  simp [tokenPolled, extend, openTransaction, transaction]

/-- A block read that receives its data, drained or not (R194, R195). -/
theorem finish_readData_tokenPolled (a : BitVec 32) (k j : Nat) (tok : Byte) (s : State) :
    finish .success (readData (tokenPolled a k (j + 1) tok s)) = { s with
      cmd := 17#6, arg := a, ret := .idle, seq := .idle, busHeld := false,
      frameBuf := frame 17#6 a, acc := frameCheck 17#6 a, crcOut := frameCheck 17#6 a,
      pollCnt := s.cfg.tokenPolls - (j + 1), status := 0x00#8, token := tok, result := .success,
      data := Vector.ofFn (fun i : Fin 512 => s.rxAt (k + j + 2 + i.val)),
      rx := s.rx.drop (k + j + 514 + (if s.cfg.drainCrc then 2 else 0)),
      rxPos := s.rxPos + (k + j + 514 + (if s.cfg.drainCrc then 2 else 0)),
      txRev := extend s (transaction 17#6 a ((rxFrom s 0 (k + j + 2)).map .rx ++
        [.rxn (rxFrom s (k + j + 2) 512)] ++
        (if s.cfg.drainCrc then [.rxn (rxFrom s (k + j + 514) 2)] else []))) } := by
  have hplace : k + 1 + (j + 1) = k + j + 2 := by omega
  have hdrain : (tokenPolled a k (j + 1) tok s).cfg.drainCrc = s.cfg.drainCrc := rfl
  have hbyte (i : Nat) : (tokenPolled a k (j + 1) tok s).rxAt i = s.rxAt (k + j + 2 + i) := by
    rw [← hplace]
    exact rxAt_rxDrop s _ i
  have hafter (i : Nat) : (takeData (tokenPolled a k (j + 1) tok s)).rxAt i = s.rxAt (k + j + 514 + i) := by
    refine ((rxAt_rxDrop _ 512 i).trans (hbyte (512 + i))).trans (congrArg s.rxAt ?_)
    omega
  rw [finish_eq, readData, hdrain]
  cases s.cfg.drainCrc with
  | false =>
    rw [if_neg Bool.false_ne_true]
    simp only [takeData, rxTake_eq_rxFrom hbyte, hbyte]
    simp [emit, State.rxDrop, tokenPolled, extend, openTransaction, transaction, hplace, blockLen, Nat.add_assoc]
  | true =>
    rw [if_pos rfl, drainChecksum, rxTake_eq_rxFrom hafter]
    simp only [takeData, rxTake_eq_rxFrom hbyte, hbyte]
    simp [emit, State.rxDrop, tokenPolled, extend, openTransaction, transaction, hplace, blockLen, Nat.add_assoc]

/-- Settles O28: filler through the last attempt. -/
theorem rdblkTokenTimeout : Obligations.RdblkTokenTimeout := by
  intro s a k hfree hctx hk hvalid hgood hpolls hfiller
  obtain ⟨tok, heq, htok⟩ := rdblk_of_allFiller a hk hvalid hgood hfiller
  obtain rfl := htok hpolls
  rw [exec_rdblk a hfree hctx, heq, finish_tokenPolled, Nat.sub_self]
  obtain ⟨hseq, hheld⟩ := hfree
  simp only [hseq, hheld]

/-- Settles O30: the token check at the byte found. -/
theorem rdblkTokenEndings : Obligations.RdblkTokenEndings := by
  intro s a k j hfree hctx hk hvalid hgood hj hfiller htoken
  rw [exec_rdblk a hfree hctx, rdblk_of_token a hk hvalid hgood hj hfiller htoken]
  obtain ⟨hseq, hheld⟩ := hfree
  refine ⟨fun hstart => ?data, fun hother => ?other⟩
  case data =>
    rw [if_neg (not_not.mpr hstart), finish_readData_tokenPolled, hstart]
    simp only [hseq, hheld]
  case other =>
    have hplace : k + 1 + (j + 1) = k + j + 2 := by omega
    rw [if_pos hother, finish_tokenPolled, hplace]
    simp only [hseq, hheld]

/-- Every token poll finds a byte that is not filler within its attempts, or none (R192). -/
theorem exists_token_or_allFiller (s : State) (p n : Nat) :
    (∃ j, j < n ∧ AllFiller s p j ∧ s.rxAt (p + j) ≠ 0xFF#8) ∨ AllFiller s p n := by
  by_cases h : ∃ j, j < n ∧ s.rxAt (p + j) ≠ 0xFF#8
  · obtain ⟨hlt, htoken⟩ := Nat.find_spec h
    refine .inl ⟨Nat.find h, hlt, fun i hi => not_not.mp fun hne => ?_, htoken⟩
    exact Nat.find_min h hi ⟨hi.trans hlt, hne⟩
  · exact .inr fun j hj => not_not.mp fun hne => h ⟨j, hj, hne⟩

theorem tx_of_txRev_extend {s t : State} {es : List Event} (h : t.txRev = extend s es) : t.tx = s.tx ++ es := by
  simp [State.tx, h, extend]

/-- A reception of a length the block makes (R54, R195). -/
def isLegalReception : Event → Bool
  | .rx _ => true
  | .rxn bs => legalReception bs.length
  | .cfg _ _ _ | .acquire | .release | .idle _ | .send _ => false

theorem isReception_of_isLegalReception {e : Event} (h : isLegalReception e = true) : isReception e = true := by
  cases e with
  | rx | rxn => rfl
  | _ => cases h

theorem isLegalReception_map_rx (bs : List Byte) : ∀ e ∈ bs.map Event.rx, isLegalReception e = true :=
  List.forall_mem_map.mpr fun _ _ => rfl

/-- How a block read ends, in what all its endings have in common (R190 to R196). -/
structure ReadEnds (a : BitVec 32) (s t : State) : Prop where
  result : t.result = .success ∨ t.result = .timeout ∨ t.result = .badResponse
  data : t.result ≠ .success → t.data = s.data
  bytes : t.rxPos ≤ s.rxPos + s.ctxTb + s.cfg.tokenPolls + 512 + (if s.cfg.drainCrc then 2 else 0)
  events : ∃ rs, (∀ e ∈ rs, isLegalReception e = true) ∧ t.txRev = extend s (transaction 17#6 a rs)
  frame : t.resp = s.resp ∧ t.ctxTb = s.ctxTb ∧ t.ctxDiv = s.ctxDiv ∧ t.busHeld = false ∧ t.seq = .idle
  kept : t.rlen = s.rlen ∧ t.ctxValid = s.ctxValid ∧ t.attCnt = s.attCnt ∧ t.cfg = s.cfg ∧ t.grain = s.grain ∧
    t.host = s.host

theorem readEnds_finish_polled {r : Result} (hr : r = .timeout ∨ r = .badResponse) {n : Nat} (d : Nat) (st : Byte)
    (a : BitVec 32) {s : State} (hn : n ≤ s.ctxTb) : ReadEnds a s (finish r (polled readCmd a n st d (loadRead a s))) := by
  rw [finish_polled_read]
  exact ⟨.inr hr, fun _ => rfl, by dsimp only; omega, ⟨_, isLegalReception_map_rx _, rfl⟩,
    ⟨rfl, rfl, rfl, rfl, rfl⟩, ⟨rfl, rfl, rfl, rfl, rfl, rfl⟩⟩

theorem readEnds_finish_tokenPolled {r : Result} (hr : r = .timeout ∨ r = .badResponse) {k n : Nat} (tok : Byte)
    (a : BitVec 32) {s : State} (hk : k < s.ctxTb) (hn : n ≤ s.cfg.tokenPolls) :
    ReadEnds a s (finish r (tokenPolled a k n tok s)) := by
  rw [finish_tokenPolled]
  exact ⟨.inr hr, fun _ => rfl, by dsimp only; omega, ⟨_, isLegalReception_map_rx _, rfl⟩,
    ⟨rfl, rfl, rfl, rfl, rfl⟩, ⟨rfl, rfl, rfl, rfl, rfl, rfl⟩⟩

theorem readEnds_finish_readData {k j : Nat} (tok : Byte) (a : BitVec 32) {s : State} (hk : k < s.ctxTb)
    (hj : j < s.cfg.tokenPolls) : ReadEnds a s (finish .success (readData (tokenPolled a k (j + 1) tok s))) := by
  rw [finish_readData_tokenPolled]
  refine ⟨.inl rfl, fun h => absurd rfl h, by dsimp only; omega, ⟨_, ?receptions, rfl⟩,
    ⟨rfl, rfl, rfl, rfl, rfl⟩, ⟨rfl, rfl, rfl, rfl, rfl, rfl⟩⟩
  case receptions =>
    refine List.forall_mem_append.mpr ⟨List.forall_mem_append.mpr ⟨isLegalReception_map_rx _, ?_⟩, ?_⟩
    · simp [isLegalReception, legalReception, rxFrom, blockLen]
    · split <;> simp [isLegalReception, legalReception, rxFrom]

/-- Whatever RX answers, a block read ends. -/
theorem readEnds_rdblk (a : BitVec 32) (s : State) : ReadEnds a s (rdblk a s) := by
  rcases exists_firstValid_or_allSkip s 0 s.ctxTb with ⟨k, hk, hvalid⟩ | hskip
  case inr =>
    obtain ⟨st, d, heq, -⟩ := exists_rdblk_eq_of_allSkip a hskip
    rw [heq]
    exact readEnds_finish_polled (.inl rfl) d st a le_rfl
  case inl =>
    by_cases hgood : s.rxAt k = 0x00#8
    case neg =>
      rw [rdblk_eq_of_badStatus a hk hvalid hgood]
      exact readEnds_finish_polled (.inr rfl) _ _ a hk
    case pos =>
      rcases exists_token_or_allFiller s (k + 1) s.cfg.tokenPolls with ⟨j, hj, hfiller, htoken⟩ | hfiller
      case inr =>
        obtain ⟨tok, heq, -⟩ := rdblk_of_allFiller a hk hvalid hgood hfiller
        rw [heq]
        exact readEnds_finish_tokenPolled (.inl rfl) tok a hk le_rfl
      case inl =>
        rw [rdblk_of_token a hk hvalid hgood hj hfiller htoken]
        split
        case isTrue => exact readEnds_finish_tokenPolled (.inr rfl) _ a hk hj
        case isFalse => exact readEnds_finish_readData _ a hk hj

/-- Settles O31: what all endings of a block read have in common. -/
theorem rdblkAlwaysEnds : Obligations.RdblkAlwaysEnds := by
  intro s a hfree hctx
  obtain ⟨hresult, hdata, hbytes, ⟨rs, hrs, hevents⟩, hframe, -⟩ := readEnds_rdblk a s
  obtain ⟨middle, htx, hacquires, hreleases⟩ := exists_middle_of_transaction 17#6 a
    (fun e he => isReception_of_isLegalReception (hrs e he)) (tx_of_txRev_extend hevents)
  exact ⟨_, middle, exec_rdblk a hfree hctx, hresult, hdata, hbytes, htx, hacquires, hreleases, hframe⟩

end Sys2Proof.Machine

/-! PROOFS. The rows below the operations (30_encoding.md section 3): what each does where its decoder is in force, and that it
is refused elsewhere. -/

namespace Sys2Proof.Machine

open Spec

/-! ### The frame rows -/

/-- What sending a frame leaves, STATUS and the draws where CTX_TB fixes them (R152 to R154). -/
theorem exists_sendFrame_eq (c : BitVec 6) (a : BitVec 32) (s : State) :
    ∃ (st : Byte) (d : Nat), sendFrame c a s = { s with
        seq := .xSend, frameBuf := frame c a, acc := frameCheck c a, crcOut := frameCheck c a,
        pollCnt := s.ctxTb, status := st, draw := d, txRev := .send (frame c a).toList :: s.txRev } ∧
      (s.ctxTb ≠ 0 → st = s.status ∧ d = s.draw) := by
  rw [sendFrame, startPoll_eq]
  exact ⟨_, _, rfl, fun h => ⟨if_neg h, if_neg h⟩⟩

/-- Every frame row comes down to this one (R156). -/
theorem execFrame48_of_xPulse (c : BitVec 6) (a : BitVec 32) {s : State} (h : s.seq = .xPulse) :
    execFrame48 c a s = .next (sendFrame c a s) := if_pos h

theorem execFrame48_of_ne_xPulse (c : BitVec 6) (a : BitVec 32) {s : State} (h : s.seq ≠ .xPulse) :
    execFrame48 c a s = .refused .outOfSequence := if_neg h

/-- A row with a checksum field is its frame's row where the field is the frame's checksum (R89). -/
theorem exec_cmdn (c : BitVec 6) (a : BitVec 32) {k : BitVec 7} (h : k = frameK c a) (s : State) :
    exec (.cmdn c a k) s = execFrame48 c a s := if_pos h

theorem exec_cmd17 (a : BitVec 32) {k : BitVec 7} (h : k = frameK 17#6 a) (s : State) :
    exec (.cmd17 a k) s = execFrame48 17#6 a s := if_pos h

theorem exec_cmdn_of_wrongChecksum (c : BitVec 6) (a : BitVec 32) {k : BitVec 7} (h : k ≠ frameK c a) (s : State) :
    exec (.cmdn c a k) s = .refused .frameChecksumWrong := if_neg h

theorem exec_cmd17_of_wrongChecksum (a : BitVec 32) {k : BitVec 7} (h : k ≠ frameK 17#6 a) (s : State) :
    exec (.cmd17 a k) s = .refused .frameChecksumWrong := if_neg h

/-- The command and the argument of the rows with every bit fixed, and their bytes (R91). -/
theorem fixedRow_cases {i : Instr} {bytes : Vector Byte 6} (h : (i, bytes) ∈
      [(Instr.cmd0, #v[0x40#8, 0x00#8, 0x00#8, 0x00#8, 0x00#8, 0x95#8]),
       (Instr.cmd8, #v[0x48#8, 0x00#8, 0x00#8, 0x01#8, 0xAA#8, 0x87#8]),
       (Instr.cmd55, #v[0x77#8, 0x00#8, 0x00#8, 0x00#8, 0x00#8, 0x65#8]),
       (Instr.acmd41, #v[0x69#8, 0x40#8, 0x00#8, 0x00#8, 0x00#8, 0x77#8]),
       (Instr.cmd58, #v[0x7A#8, 0x00#8, 0x00#8, 0x00#8, 0x00#8, 0xFD#8])]) :
    ∃ c a, frame c a = bytes ∧ ∀ s, exec i s = execFrame48 c a s := by
  simp only [List.mem_cons, Prod.mk.injEq, List.not_mem_nil, or_false] at h
  rcases h with ⟨rfl, rfl⟩ | ⟨rfl, rfl⟩ | ⟨rfl, rfl⟩ | ⟨rfl, rfl⟩ | ⟨rfl, rfl⟩
  · exact ⟨0#6, zeroArg, by decide +kernel, fun _ => rfl⟩
  · exact ⟨8#6, checkArg, by decide +kernel, fun _ => rfl⟩
  · exact ⟨55#6, zeroArg, by decide +kernel, fun _ => rfl⟩
  · exact ⟨41#6, hcsArg, by decide +kernel, fun _ => rfl⟩
  · exact ⟨58#6, zeroArg, by decide +kernel, fun _ => rfl⟩

/-- The checksum is byte 5 without its stop bit (R89). -/
theorem frameCheck_eq_byte5_xor (c : BitVec 6) (a : BitVec 32) : frameCheck c a = (frame c a)[5] ^^^ 0x01#8 := by
  have hbyte : (frame c a)[5] = frameSum c a ^^^ stopBit := frameByte5_eq_xor c a
  have hstop : stopBit = 0x01#8 := rfl
  rw [hbyte, hstop, BitVec.xor_assoc, BitVec.xor_self, BitVec.xor_zero]
  rfl

/-- Settles O37: the fixed rows carry their command and argument, and every row sends the frame of its own. -/
theorem frameRowsAreSent : Obligations.FrameRowsAreSent := by
  refine ⟨fun i bytes hrow s hseq => ?fixed, fun s c a k hseq hk => ?generic⟩
  case fixed =>
    obtain ⟨c, a, rfl, hexec⟩ := fixedRow_cases hrow
    obtain ⟨st, d, heq, hst⟩ := exists_sendFrame_eq c a s
    refine ⟨st, d, ?_, hst⟩
    rw [hexec, execFrame48_of_xPulse c a hseq, heq, ← frameCheck_eq_byte5_xor]
  case generic =>
    obtain ⟨st, d, heq, hst⟩ := exists_sendFrame_eq c a s
    refine ⟨st, d, ?_, fun hc => ?_, hst⟩
    · rw [exec_cmdn c a hk, execFrame48_of_xPulse c a hseq, heq]
    · subst hc
      rw [exec_cmd17 a hk, exec_cmdn 17#6 a hk]

/-- Settles O38: the read frame is the frame of command 17. -/
theorem readFrameCarriesTheAddress : Obligations.ReadFrameCarriesTheAddress := by
  intro s a hseq
  obtain ⟨st, d, heq, hst⟩ := exists_sendFrame_eq 17#6 a s
  refine ⟨st, d, ?_, hst⟩
  rw [exec_cmd17 (k := (frameCheck 17#6 a).extractLsb' 1 7) a rfl, execFrame48_of_xPulse 17#6 a hseq, heq]
  rfl

/-! ### The polls' rows -/

theorem exec_stSkip (x : BitVec 7) (s : State) : exec (.stSkip x) s = statusAttempt (skipOf x) s := rfl

theorem exec_stValid (f : BitVec 7) (s : State) : exec (.stValid f) s =
    if statusPolling s then
      .next (if s.ret = .bCheck then enterBlockCheck (statusByte (statusOf f) s) else statusByte (statusOf f) s)
    else .refused .outOfSequence := rfl

/-- Where a block read's status is checked, the token budget is loaded if the status is 0x00 (R190, R191). -/
theorem enterBlockCheck_eq (s : State) : enterBlockCheck s = { s with
    seq := .bCheck, pollCnt := if s.status = 0#8 then s.cfg.tokenPolls else s.pollCnt } := by
  rw [enterBlockCheck]
  split <;> rfl

/-- A status byte is 0x00 exactly when no flag is set (R81). -/
theorem statusOf_eq_zero_iff (f : BitVec 7) : statusOf f = 0#8 ↔ f = 0#7 := by
  revert f
  decide

/-- Settles O39: an attempt that is due is made, and after a valid byte a block read goes on to its check. -/
theorem statusPollRows : Obligations.StatusPollRows := by
  intro s hdue
  refine ⟨fun x => ?skip, fun f hret => ?valid, fun f hret => ?read⟩
  case skip => rw [exec_stSkip, statusAttempt, if_pos hdue]; rfl
  case valid => rw [exec_stValid, if_pos hdue, if_neg hret]; rfl
  case read =>
    rw [exec_stValid, if_pos hdue, if_pos hret, enterBlockCheck_eq]
    simp only [statusByte_status, statusOf_eq_zero_iff]
    rfl

/-- Settles O40: each token row is an attempt that returned its byte. -/
theorem tokenPollRows : Obligations.TokenPollRows := by
  intro s hdue i t hrow
  have hexec : exec i s = tokenAttempt t s := by
    rcases hrow with ⟨rfl, rfl⟩ | ⟨rfl, rfl⟩ | rfl <;> rfl
  rw [hexec, tokenAttempt, if_pos hdue]
  rfl

/-! ### The endings -/

/-- RESP becomes a draw where an XCMD's own poll ends with TIMEOUT (R155). -/
def drawIfOpen (r : Result) (s : State) : State := if r = .timeout ∧ exchangeOpen s = true then drawResp s else s

theorem exists_drawIfOpen_eq (r : Result) (s : State) :
    ∃ (resp : Vector Byte 5) (d : Nat), drawIfOpen r s = { s with resp := resp, draw := d } ∧
      (¬ (r = .timeout ∧ exchangeOpen s = true) → resp = s.resp ∧ d = s.draw) := by
  unfold drawIfOpen
  split
  case isTrue hopen => exact ⟨(drawResp s).resp, s.draw + 5, rfl, fun hno => absurd hopen hno⟩
  case isFalse => exact ⟨s.resp, s.draw, rfl, fun _ => ⟨rfl, rfl⟩⟩

@[simp] theorem drawIfOpen_busHeld (r : Result) (s : State) : (drawIfOpen r s).busHeld = s.busHeld := by
  obtain ⟨resp, d, heq, -⟩ := exists_drawIfOpen_eq r s
  rw [heq]

@[simp] theorem drawIfOpen_ret (r : Result) (s : State) : (drawIfOpen r s).ret = s.ret := by
  obtain ⟨resp, d, heq, -⟩ := exists_drawIfOpen_eq r s
  rw [heq]

@[simp] theorem drawIfOpen_success (s : State) : drawIfOpen .success s = s := if_neg (by simp)

theorem conclude_eq (r : Result) (s : State) : conclude r s =
    if s.busHeld && handshakeReturn s.ret then enterNegotiation (endExchange r (drawIfOpen r s))
    else finish r (drawIfOpen r s) := by
  rw [← drawIfOpen_busHeld r s, ← drawIfOpen_ret r s]
  rfl

/-- The ending of the host's own operation (R209). -/
theorem conclude_of_host (r : Result) {s : State} (h : s.busHeld = false ∨ handshakeReturn s.ret = false) :
    conclude r s = finish r (drawIfOpen r s) := by
  rw [conclude_eq, if_neg]
  rcases h with h | h <;> simp [h]

/-- The return of an exchange into INIT (R170, R209). -/
theorem conclude_of_call (r : Result) {s : State} (hheld : s.busHeld = true) (hret : handshakeReturn s.ret = true) :
    conclude r s = enterNegotiation (endExchange r (drawIfOpen r s)) := by
  rw [conclude_eq, hheld, hret]
  rfl

/-- The result rows end with their class (R101). -/
theorem exec_resultRow {i : Instr} {r : Result} (h : (i, r) ∈ [(Instr.success, Result.success),
      (Instr.timeout, Result.timeout), (Instr.notSupported, Result.notSupported), (Instr.badResponse, Result.badResponse)])
    (s : State) : exec i s = endWith r s := by
  simp only [List.mem_cons, Prod.mk.injEq, List.not_mem_nil, or_false] at h
  rcases h with ⟨rfl, rfl⟩ | ⟨rfl, rfl⟩ | ⟨rfl, rfl⟩ | ⟨rfl, rfl⟩ <;> rfl

theorem endWith_of_due {s : State} {r : Result} (h : dueClass s = some r) : endWith r s = .next (conclude r s) := if_pos h

theorem endWith_of_not_due {s : State} {r : Result} (h : dueClass s ≠ some r) : endWith r s = .refused .outOfSequence :=
  if_neg h

/-- Settles O42: a class that is due ends the operation, which releases the bus if it is held. -/
theorem resultRowsEndTheOperation : Obligations.ResultRowsEndTheOperation := by
  intro s i r hrow hdue hhost
  obtain ⟨resp, d, heq, hkept⟩ := exists_drawIfOpen_eq r s
  refine ⟨resp, d, ?_, hkept⟩
  rw [exec_resultRow hrow, endWith_of_due hdue, conclude_of_host r hhost, heq, finish_eq]
  cases s.busHeld <;> rfl

/-- The load of ATT_CNT is all that the return into step 2 adds (R170). -/
theorem exists_enterNegotiation_eq (s : State) :
    ∃ att, enterNegotiation s = { s with attCnt := att } ∧ (s.seq ≠ .iS2 → att = s.attCnt) ∧
      (att = s.attCnt ∨ att = s.cfg.negAttempts) := by
  unfold enterNegotiation
  split
  case isTrue h => exact ⟨s.cfg.negAttempts, rfl, fun hne => absurd h.1 hne, .inr rfl⟩
  case isFalse => exact ⟨s.attCnt, rfl, fun _ => rfl, .inl rfl⟩

/-- What an exchange that INIT called leaves at its return (R170, R209). -/
theorem exists_conclude_eq_of_call (r : Result) {s : State} (hheld : s.busHeld = true)
    (hret : handshakeReturn s.ret = true) :
    ∃ (resp : Vector Byte 5) (d att : Nat), conclude r s = { s with
        busHeld := false, result := r, seq := s.ret, resp := resp, draw := d, attCnt := att,
        txRev := .release :: s.txRev } ∧
      (r = .success → resp = s.resp ∧ d = s.draw) ∧ (s.ret ≠ .iS2 → att = s.attCnt) := by
  obtain ⟨resp, d, hdraw, hkept⟩ := exists_drawIfOpen_eq r s
  obtain ⟨att, henter, hatt, -⟩ := exists_enterNegotiation_eq (endExchange r (drawIfOpen r s))
  rw [hdraw, endExchange_eq] at henter hatt
  refine ⟨resp, d, att, ?_, fun hr => hkept (by simp [hr]), hatt⟩
  rw [conclude_of_call r hheld hret, hdraw, endExchange_eq, henter]
  simp [hheld]

theorem storeBytes_one (b : Byte) (old : Vector Byte 5) :
    storeBytes [b] old = #v[b, old[1], old[2], old[3], old[4]] := by
  ext i hi
  interval_cases i <;> simp [storeBytes]

theorem storeBytes_five (b p1 p2 p3 p4 : Byte) (old : Vector Byte 5) :
    storeBytes [b, p1, p2, p3, p4] old = #v[b, p1, p2, p3, p4] := by
  ext i hi
  interval_cases i <;> simp [storeBytes]

theorem responseDue_iff (s : State) : responseDue s = true ↔ s.seq = .xPoll ∧ s.status.getLsbD 7 = false := by
  rw [responseDue, Bool.and_eq_true, decide_eq_true_iff, validStatus_iff]

/-- Where a response of one byte is due, its row stores it and ends the exchange (R81, R155). -/
theorem exec_r1 (f : BitVec 7) {s : State} (hdue : responseDue s = true) (hlen : s.rlen = 1) :
    exec (.r1 f) s = .next (conclude .success { s with resp := storeBytes [statusOf f] s.resp }) := if_pos ⟨hdue, hlen⟩

/-- Where a response of five bytes is due, its row stores them (R82, R155). -/
theorem exec_r3r7 (f : BitVec 7) (p1 p2 p3 p4 : Byte) {s : State} (hdue : responseDue s = true) (hlen : s.rlen = 5) :
    exec (.r3r7 f p1 p2 p3 p4) s = .next (storeResponse (statusOf f) [p1, p2, p3, p4] s) := if_pos ⟨hdue, hlen⟩

/-- Settles O43: `conclude` returns into INIT, from a result row or from R1. -/
theorem exchangeReturnsIntoInit : Obligations.ExchangeReturnsIntoInit := by
  refine ⟨fun s r hheld hret hdue hr => ?result, fun s f hheld hret hseq hstatus hlen => ?response⟩
  case result =>
    obtain ⟨resp, d, att, heq, hkept⟩ := exists_conclude_eq_of_call r hheld hret
    refine ⟨resp, d, att, ?_, hkept⟩
    rw [exec_resultRow (r := r) (by rcases hr with rfl | rfl <;> simp), endWith_of_due hdue, heq]
  case response =>
    have hdue : responseDue s = true := (responseDue_iff s).mpr ⟨hseq, hstatus⟩
    obtain ⟨resp, d, att, heq, hkept, hatt⟩ :=
      exists_conclude_eq_of_call .success (s := { s with resp := storeBytes [statusOf f] s.resp }) hheld hret
    obtain ⟨rfl, rfl⟩ := hkept rfl
    refine ⟨att, ?_, hatt⟩
    rw [exec_r1 f hdue hlen, heq, storeBytes_one]
    rfl

/-- Settles O41: RESP holds the row's bytes; with one byte the exchange of the host ends there. -/
theorem responseRows : Obligations.ResponseRows := by
  refine ⟨fun s f hseq hstatus hlen hheld hret => ?one, fun s f p1 p2 p3 p4 hseq hstatus hlen => ?five⟩
  case one =>
    have hdue : responseDue s = true := (responseDue_iff s).mpr ⟨hseq, hstatus⟩
    have hhost : handshakeReturn s.ret = false := by rw [hret]; rfl
    rw [exec_r1 f hdue hlen, conclude_of_host .success (s := { s with resp := storeBytes [statusOf f] s.resp }) (.inr hhost),
      drawIfOpen_success, storeBytes_one, finish_eq]
    simp [hheld, hret, statusOf]
  case five =>
    rw [exec_r3r7 f p1 p2 p3 p4 ((responseDue_iff s).mpr ⟨hseq, hstatus⟩) hlen, storeResponse, storeBytes_five]
    rfl

/-! ### What is refused -/

theorem exec_r1_refused (f : BitVec 7) {s : State} (h : responseDue s = false ∨ s.rlen ≠ 1) :
    exec (.r1 f) s = .refused .outOfSequence :=
  if_neg fun ⟨hdue, hlen⟩ => h.elim (fun hno => by rw [hno] at hdue; cases hdue) (fun hne => hne hlen)

theorem exec_r3r7_refused (f : BitVec 7) (p1 p2 p3 p4 : Byte) {s : State} (h : responseDue s = false ∨ s.rlen ≠ 5) :
    exec (.r3r7 f p1 p2 p3 p4) s = .refused .outOfSequence :=
  if_neg fun ⟨hdue, hlen⟩ => h.elim (fun hno => by rw [hno] at hdue; cases hdue) (fun hne => hne hlen)

theorem tokenAttempt_refused (b : Byte) {s : State} (h : tokenPolling s = false) :
    tokenAttempt b s = .refused .outOfSequence := if_neg (Bool.eq_false_iff.mp h)

/-- Settles O46: the guard of each row fails. -/
theorem outOfSequenceIsRefused : Obligations.OutOfSequenceIsRefused := by
  refine ⟨fun s i hseq hrow => ?fixed, fun s c a k => ⟨fun hk => exec_cmdn_of_wrongChecksum c a hk s,
    fun hk => exec_cmd17_of_wrongChecksum a hk s, fun hseq hk => ?cmdn, fun hseq hk => ?cmd17⟩,
    fun s f h => exec_r1_refused f h, fun s f p1 p2 p3 p4 h => exec_r3r7_refused f p1 p2 p3 p4 h, fun s x h => ?status,
    fun s t h => ⟨tokenAttempt_refused filler h, tokenAttempt_refused startToken h, tokenAttempt_refused t h⟩,
    fun s i r hrow hdue => ?result⟩
  case fixed =>
    simp only [List.mem_cons, List.not_mem_nil, or_false] at hrow
    rcases hrow with rfl | rfl | rfl | rfl | rfl <;> exact execFrame48_of_ne_xPulse _ _ hseq
  case cmdn => rw [exec_cmdn c a hk, execFrame48_of_ne_xPulse c a hseq]
  case cmd17 => rw [exec_cmd17 a hk, execFrame48_of_ne_xPulse 17#6 a hseq]
  case status =>
    have hno : ¬ statusPolling s = true := Bool.eq_false_iff.mp h
    rw [exec_stSkip, statusAttempt, exec_stValid]
    exact ⟨if_neg hno, if_neg hno⟩
  case result => rw [exec_resultRow hrow, endWith_of_not_due hdue]

/-- Settles O45: the row is refused, and the two codes differ in their lowest bit. -/
theorem reservedOperationIsRefused : Obligations.ReservedOperationIsRefused :=
  ⟨fun _ _ => rfl, fun _ => ⟨rfl, rfl⟩⟩

end Sys2Proof.Machine

/-! PROOFS. One step (92_eei_decisions.md D30): what is fetched where each port is in force, what the step makes of it, and, the
other way round, everything a step can do. -/

namespace Sys2Proof.Machine

open Spec

/-! ### The word at the port in force -/

theorem fetch_of_no_dueClass {s : State} (h : dueClass s = none) : fetch s = sequencerEvent s := by rw [fetch, h]

theorem dueClass_of_idle {s : State} (h : s.seq = .idle) : dueClass s = none := by simp [dueClass, h]

theorem fetch_host {s : State} {r : Request} {rest : List Request} (hseq : s.seq = .idle) (hhost : s.host = r :: rest) :
    fetch s = .word (.op r.code r.opr) (takeRequest r rest s) := by
  rw [fetch_of_no_dueClass (dueClass_of_idle hseq)]
  simp [sequencerEvent, hseq, hhost]

theorem fetch_frame {s : State} (h : s.seq = .xPulse) : fetch s = .word (.frame48 (frameWord s.cmd s.arg)) s := by
  rw [fetch_of_no_dueClass (by simp [dueClass, h])]
  simp [sequencerEvent, h]

/-- Where a status poll attempt is due SEQ is X_SEND, or X_POLL with no valid byte yet (R153). -/
theorem statusPolling_iff (s : State) : statusPolling s = true ↔
    s.pollCnt ≠ 0 ∧ (s.seq = .xSend ∨ (s.seq = .xPoll ∧ validStatus s.status = false)) := by
  cases hseq : s.seq <;> simp [statusPolling, hseq, and_comm]

/-- Where a token poll attempt is due SEQ is B_CHECK after a status 0x00, or B_TOKEN after filler (R190, R192). -/
theorem tokenPolling_iff (s : State) : tokenPolling s = true ↔
    s.pollCnt ≠ 0 ∧ ((s.seq = .bCheck ∧ s.status = 0#8) ∨ (s.seq = .bToken ∧ isFiller s.token = true)) := by
  cases hseq : s.seq <;> simp [tokenPolling, hseq, and_comm]

theorem fetch_statusPoll {s : State} (h : statusPolling s = true) : fetch s = .word (.statusPoll (s.rxAt 0)) (s.rxDrop 1) := by
  obtain ⟨hcnt, hseq | ⟨hseq, hskip⟩⟩ := (statusPolling_iff s).mp h
  · rw [fetch_of_no_dueClass (by simp [dueClass, hseq, hcnt])]
    simp [sequencerEvent, hseq]
  · rw [fetch_of_no_dueClass (by simp [dueClass, hseq, hskip, hcnt])]
    simp [sequencerEvent, hseq, hskip]

theorem fetch_tokenPoll {s : State} (h : tokenPolling s = true) : fetch s = .word (.tokenPoll (s.rxAt 0)) (s.rxDrop 1) := by
  obtain ⟨hcnt, ⟨hseq, hgood⟩ | ⟨hseq, hfiller⟩⟩ := (tokenPolling_iff s).mp h
  · rw [fetch_of_no_dueClass (by simp [dueClass, hseq, hgood, hcnt])]
    simp [sequencerEvent, hseq]
  · rw [fetch_of_no_dueClass (by simp [dueClass, hseq, hfiller, hcnt])]
    simp [sequencerEvent, hseq, hfiller]

theorem fetch_response {s : State} (h : responseDue s = true) : fetch s = fetchResponse s := by
  obtain ⟨hseq, hstatus⟩ := (responseDue_iff s).mp h
  have hvalid : validStatus s.status = true := (validStatus_iff _).mpr hstatus
  rw [fetch_of_no_dueClass (by simp [dueClass, hseq, hvalid])]
  simp [sequencerEvent, hseq, hvalid]

theorem fetch_result {s : State} {r : Result} (h : dueClass s = some r) : fetch s = .word (.resultCode r.code) s := by
  rw [fetch, h]

/-! ### The step at each port -/

/-- A word of any port but the host's is run whole at either grain: none of these rows is an operation (R92, D30). -/
theorem runWord_of_decode {p : PortWord} {i : Instr} (hport : ∀ c o, p ≠ .op c o) (h : decode p = .ok i) (s : State) :
    runWord i s = exec i s := by
  have hencode := decodedWordReencodes p i hport h
  cases i with
  | crc7 | frame | xr1 | xcmd | rdblk | init | reservedOp => exact absurd hencode.symm (hport _ _)
  | _ => exact runWord_eq_exec rfl rfl s

/-- A step that takes a word from any port but the host's runs its instruction. -/
theorem step_eq_exec {s t : State} {p : PortWord} {i : Instr} (hfetch : fetch s = .word p t) (hport : ∀ c o, p ≠ .op c o)
    (hdecode : decode p = .ok i) : step s = exec i t := by
  rw [step_of_fetch_word hfetch hdecode, runWord_of_decode hport hdecode]

/-- Settles O6: port by port, the fetch and then the instruction. -/
theorem stepRunsTheDecodedInstruction : Obligations.StepRunsTheDecodedInstruction := by
  refine ⟨fun s r rest i hseq hgrain hhost hdecode hissue => ?host,
    fun s i hseq hdecode => step_eq_exec (fetch_frame hseq) (by simp) hdecode,
    fun s i hdue hdecode => step_eq_exec (fetch_statusPoll hdue) (by simp) hdecode,
    fun s i hdue hdecode => step_eq_exec (fetch_tokenPoll hdue) (by simp) hdecode,
    fun s i hdue hlen hdecode => step_eq_exec (p := .respR1 s.status) ?one (by simp) hdecode,
    fun s i hdue hlen hdecode => step_eq_exec ?five (by simp) hdecode,
    fun s r i hdue hdecode => step_eq_exec (fetch_result hdue) (by simp) hdecode⟩
  case host =>
    have htaken : (takeRequest r rest s).grain = .operation := hgrain
    rw [step_of_fetch_word (fetch_host hseq hhost) hdecode, runWord, if_pos hissue, htaken]
    rfl
  case one => rw [fetch_response hdue, fetchResponse, if_pos hlen]
  case five => rw [fetch_response hdue, fetchResponse, if_neg (by omega), if_pos hlen]

/-- Settles O7: nothing is fetched. -/
theorem idleWithoutRequestStays : Obligations.IdleWithoutRequestStays := by
  intro s hseq hhost
  have hfetch : fetch s = .quiet := by
    rw [fetch_of_no_dueClass (dueClass_of_idle hseq)]
    simp [sequencerEvent, hseq, hhost]
  rw [step, hfetch]

/-- Settles O8: the code decodes to XR1, which the host may not issue. -/
theorem hostMayNotIssueXr1 : Obligations.HostMayNotIssueXr1 := by
  intro s o rest hseq hhost
  rw [step_of_fetch_word (fetch_host hseq hhost) (i := .xr1 o.cmd o.arg) rfl]
  rfl

/-! ### What the step makes of a word -/

theorem statusOf_flags {b : Byte} (h : b.getLsbD 7 = false) : statusOf (b.extractLsb' 0 7) = b := append_flags_eq false h

theorem skipOf_flags {b : Byte} (h : b.getLsbD 7 = true) : skipOf (b.extractLsb' 0 7) = b := append_flags_eq true h

/-- A status poll attempt: the next byte of RX, after which a block read whose byte is valid stands at its check (R150, R153). -/
def pollAttempt (s : State) : State :=
  if validStatus (s.rxAt 0) = true ∧ s.ret = .bCheck then enterBlockCheck (statusByte (s.rxAt 0) (s.rxDrop 1))
  else statusByte (s.rxAt 0) (s.rxDrop 1)

theorem step_statusPoll {s : State} (h : statusPolling s = true) : step s = .next (pollAttempt s) := by
  have hdue : statusPolling (s.rxDrop 1) = true := h
  rw [step_eq_exec (fetch_statusPoll h) (by simp) rfl, decodeStatus, pollAttempt]
  cases htop : (s.rxAt 0).getLsbD 7 with
  | true =>
    have hinvalid : validStatus (s.rxAt 0) = false := (validStatus_eq_false_iff _).mpr htop
    rw [if_pos rfl, exec_stSkip, skipOf_flags htop, statusAttempt, if_pos hdue, hinvalid]
    simp
  | false =>
    have hvalid : validStatus (s.rxAt 0) = true := (validStatus_iff _).mpr htop
    rw [if_neg Bool.false_ne_true, exec_stValid, statusOf_flags htop, if_pos hdue, hvalid, rxDrop_ret]
    by_cases hret : s.ret = .bCheck <;> simp [hret]

/-- A token poll attempt (R190, R192). -/
theorem step_token {s : State} (h : tokenPolling s = true) : step s = .next (tokenByte (s.rxAt 0) (s.rxDrop 1)) := by
  have hdue : tokenPolling (s.rxDrop 1) = true := h
  rw [step_of_fetch_word (fetch_tokenPoll h) rfl, runWord_decodeToken, tokenAttempt, if_pos hdue]

/-- The frame of CMD and ARG is read as a row that sends it (R80, R91, R141). -/
theorem exists_row_of_frameWord (c : BitVec 6) (a : BitVec 32) :
    ∃ i, decode (.frame48 (frameWord c a)) = .ok i ∧ ∀ s, exec i s = execFrame48 c a s := by
  by_cases hfixed : frameWord c a ∈ fixedFrames
  case neg =>
    refine ⟨_, decodeFrame_frameBits c a (frameK c a) hfixed, fun s => ?_⟩
    split
    case isTrue hread => subst hread; exact exec_cmd17 a rfl s
    case isFalse => exact exec_cmdn c a rfl s
  case pos =>
    have hfields {c' : BitVec 6} {a' : BitVec 32} {w : BitVec 48} (hw : frameWord c a = w)
        (hc : w.extractLsb' 40 6 = c') (ha : w.extractLsb' 8 32 = a') : c = c' ∧ a = a' := by
      subst hw
      exact ⟨(frameBits_command c a _).symm.trans hc, (frameBits_argument c a _).symm.trans ha⟩
    simp only [fixedFrames, List.mem_cons, List.not_mem_nil, or_false] at hfixed
    rcases hfixed with hw | hw | hw | hw | hw
    · obtain ⟨rfl, rfl⟩ := hfields (c' := 0#6) (a' := zeroArg) hw (by decide) (by decide)
      exact ⟨.cmd0, by rw [hw]; rfl, fun _ => rfl⟩
    · obtain ⟨rfl, rfl⟩ := hfields (c' := 8#6) (a' := checkArg) hw (by decide) (by decide)
      exact ⟨.cmd8, by rw [hw]; rfl, fun _ => rfl⟩
    · obtain ⟨rfl, rfl⟩ := hfields (c' := 55#6) (a' := zeroArg) hw (by decide) (by decide)
      exact ⟨.cmd55, by rw [hw]; rfl, fun _ => rfl⟩
    · obtain ⟨rfl, rfl⟩ := hfields (c' := 41#6) (a' := hcsArg) hw (by decide) (by decide)
      exact ⟨.acmd41, by rw [hw]; rfl, fun _ => rfl⟩
    · obtain ⟨rfl, rfl⟩ := hfields (c' := 58#6) (a' := zeroArg) hw (by decide) (by decide)
      exact ⟨.cmd58, by rw [hw]; rfl, fun _ => rfl⟩

/-- After the settling pulse the step sends the frame of CMD and ARG (R156). -/
theorem step_frame {s : State} (h : s.seq = .xPulse) : step s = .next (sendFrame s.cmd s.arg s) := by
  obtain ⟨i, hdecode, hexec⟩ := exists_row_of_frameWord s.cmd s.arg
  rw [step_eq_exec (fetch_frame h) (by simp) hdecode, hexec, execFrame48_of_xPulse _ _ h]

/-- Where a response of one byte is due the step ends the exchange (R155, R156). -/
theorem step_responseOne {s : State} (hdue : responseDue s = true) (hlen : s.rlen = 1) :
    step s = .next (conclude .success (storeStatus s)) := by
  obtain ⟨-, hstatus⟩ := (responseDue_iff s).mp hdue
  have hfetch : fetch s = .word (.respR1 s.status) s := by rw [fetch_response hdue, fetchResponse, if_pos hlen]
  have hdecode : decode (.respR1 s.status) = .ok (.r1 (s.status.extractLsb' 0 7)) := by
    rw [decode, decodeR1, hstatus]
    rfl
  rw [step_eq_exec hfetch (by simp) hdecode, exec_r1 _ hdue hlen, statusOf_flags hstatus]
  rfl

/-- Where a longer response is due the step receives it, whether its length has a row of its own or not (R155, R156). -/
theorem step_responseMore {s : State} (hdue : responseDue s = true) (hlen : s.rlen ≠ 1) :
    step s = .next (takePayload s.rlen s) := by
  obtain ⟨-, hstatus⟩ := (responseDue_iff s).mp hdue
  by_cases hfive : s.rlen = 5
  case neg =>
    have hfetch : fetch s = .act (takePayload s.rlen s) := by
      rw [fetch_response hdue, fetchResponse, if_neg hlen, if_neg hfive]
    rw [step, hfetch]
  case pos =>
    have hfetch : fetch s = .word
        (.respR3R7 ((((s.status ++ s.rxAt 0) ++ s.rxAt 1) ++ s.rxAt 2) ++ s.rxAt 3)) (s.rxDrop 4) := by
      rw [fetch_response hdue, fetchResponse, if_neg hlen, if_pos hfive]
    have hdecode := decodeR3R7_append (s.status.extractLsb' 0 7) (s.rxAt 0) (s.rxAt 1) (s.rxAt 2) (s.rxAt 3)
    rw [show (0#1 ++ s.status.extractLsb' 0 7 : Byte) = s.status from statusOf_flags hstatus] at hdecode
    have hdueTaken : responseDue (s.rxDrop 4) = true := hdue
    rw [step_eq_exec hfetch (by simp) hdecode, exec_r3r7 _ _ _ _ _ hdueTaken hfive, statusOf_flags hstatus, hfive]
    rfl

/-! ### The sequencer's own events -/

theorem step_of_fetch_act {s t : State} (h : fetch s = .act t) : step s = .next t := by rw [step, h]

theorem step_absorb {s : State} (h : s.seq = .cRun) : step s = .next (crcAbsorb s) :=
  step_of_fetch_act (by rw [fetch_of_no_dueClass (by simp [dueClass, h])]; simp [sequencerEvent, h])

theorem step_pulse {s : State} (h : s.seq = .xAcq) : step s = .next (pulse s) :=
  step_of_fetch_act (by rw [fetch_of_no_dueClass (by simp [dueClass, h])]; simp [sequencerEvent, h])

theorem step_drain {s : State} (h : s.seq = .bData) (hdrain : s.cfg.drainCrc = true) : step s = .next (drainChecksum s) :=
  step_of_fetch_act (by rw [fetch_of_no_dueClass (by simp [dueClass, h, hdrain])]; simp [sequencerEvent, h])

theorem step_initBegun {s : State} (h : s.seq = .iCfg) :
    step s = .next (if s.ret = .iS1 then beginExchange .iS1 0#6 zeroArg 1 s else preamble s) := by
  have hdue : dueClass s = none := by simp [dueClass, h]
  refine step_of_fetch_act ?_
  rw [fetch_of_no_dueClass hdue]
  simp only [sequencerEvent, h]
  split <;> rfl

theorem step_resetDone {s : State} (h : s.seq = .iS1) (htest : resetTest s = none) :
    step s = .next (beginExchange .iS2 8#6 checkArg 5 s) :=
  step_of_fetch_act (by rw [fetch_of_no_dueClass (by simp [dueClass, h, htest])]; simp [sequencerEvent, h])

theorem step_interfaceDone {s : State} (h : s.seq = .iS2) (htest : interfaceTest s = none) (hatt : s.attCnt ≠ 0) :
    step s = .next (beginAttempt s) :=
  step_of_fetch_act (by rw [fetch_of_no_dueClass (by simp [dueClass, h, htest, hatt])]; simp [sequencerEvent, h])

theorem step_prefixDone {s : State} (h : s.seq = .iS3A) : step s = .next (beginExchange .iS3B 41#6 hcsArg 1 s) :=
  step_of_fetch_act (by rw [fetch_of_no_dueClass (by simp [dueClass, h])]; simp [sequencerEvent, h])

theorem step_ready {s : State} (h : s.seq = .iS3B) (hready : cardReady s = true) :
    step s = .next (beginExchange .iS4 58#6 zeroArg 5 s) :=
  step_of_fetch_act (by rw [fetch_of_no_dueClass (by simp [dueClass, h, hready])]; simp [sequencerEvent, h, hready])

theorem step_notReady {s : State} (h : s.seq = .iS3B) (hready : cardReady s = false) (hatt : s.attCnt ≠ 0) :
    step s = .next (beginAttempt s) :=
  step_of_fetch_act (by
    rw [fetch_of_no_dueClass (by simp [dueClass, h, hready, hatt])]; simp [sequencerEvent, h, hready])

theorem step_capacityDone {s : State} (h : s.seq = .iS4) (htest : capacityTest s = none) :
    step s = .next (configure s.ctxDiv { s with seq := .iS5 }) :=
  step_of_fetch_act (by rw [fetch_of_no_dueClass (by simp [dueClass, h, htest])]; simp [sequencerEvent, h])

/-- At event grain the step at the host port begins the operation. -/
theorem step_hostEvent {s : State} {r : Request} {rest : List Request} {i : Instr} (hseq : s.seq = .idle)
    (hgrain : s.grain = .event) (hhost : s.host = r :: rest) (hdecode : decode (.op r.code r.opr) = .ok i)
    (hissue : hostMayIssue i = true) : step s = beginOperation i (takeRequest r rest s) := by
  have htaken : (takeRequest r rest s).grain = .event := hgrain
  rw [step_of_fetch_word (fetch_host hseq hhost) hdecode, runWord, if_pos hissue, htaken]

/-! ### The transition table of XCMD -/

theorem pollAttempt_of_exchange {s : State} (h : s.ret ≠ .bCheck) : pollAttempt s = statusByte (s.rxAt 0) (s.rxDrop 1) :=
  if_neg fun hread => h hread.2

/-- What a payload of `n` bytes leaves (R155). -/
theorem takePayload_eq (s : State) (n : Nat) : takePayload n s = { s with
    seq := .xPayload,
    resp := Vector.ofFn (fun i : Fin 5 =>
      if i.val = 0 then s.status else if i.val < n then s.rxAt (i.val - 1) else s.resp[i]),
    rx := s.rx.drop (n - 1), rxPos := s.rxPos + (n - 1), txRev := .rxn (rxFrom s 0 (n - 1)) :: s.txRev } := by
  have hresp : storeBytes (s.status :: rxFrom s 0 (n - 1)) s.resp = Vector.ofFn (fun i : Fin 5 =>
      if i.val = 0 then s.status else if i.val < n then s.rxAt (i.val - 1) else s.resp[i]) := by
    refine congrArg Vector.ofFn (funext fun i => ?_)
    obtain ⟨i, hi⟩ := i
    cases i with
    | zero => rfl
    | succ i =>
      have hlt : i < n - 1 ↔ i + 1 < n := by omega
      change (rxFrom s 0 (n - 1)).getD i s.resp[i + 1] =
        if i + 1 = 0 then s.status else if i + 1 < n then s.rxAt i else s.resp[i + 1]
      rw [rxFrom_getD, if_neg (Nat.succ_ne_zero i), Nat.zero_add]
      simp only [hlt]
  rw [← hresp, rxFrom_zero]
  rfl

theorem storeBytes_one_eq_ofFn (b : Byte) (old : Vector Byte 5) :
    storeBytes [b] old = Vector.ofFn (fun i : Fin 5 => if i.val = 0 then b else old[i]) := by
  refine congrArg Vector.ofFn (funext fun i => ?_)
  obtain ⟨i, hi⟩ := i
  cases i <;> rfl

/-- The class due where an XCMD's poll has spent its attempts (R153). -/
theorem dueClass_of_pollSpent {s : State} (hcnt : s.pollCnt = 0)
    (h : s.seq = .xSend ∨ (s.seq = .xPoll ∧ validStatus s.status = false)) : dueClass s = some .timeout := by
  rcases h with hseq | ⟨hseq, hskip⟩
  · simp [dueClass, hseq, hcnt]
  · simp [dueClass, hseq, hskip, hcnt]

/-- An exchange the host issued ends by `finish` (R209). -/
theorem conclude_of_ret_idle (r : Result) {s : State} (hret : s.ret = .idle) : conclude r s = finish r (drawIfOpen r s) :=
  conclude_of_host r (.inr (by rw [hret]; rfl))

/-- Settles O25: one step lemma for each row of the table. -/
theorem xcmdTransitions : Obligations.XcmdTransitions := by
  refine ⟨fun s c a l o rest hfree hgrain hctx hl hl' hhost => ?start, fun s hseq => step_pulse hseq,
    fun s hseq htb => ?send, fun s hret hcnt hseq => ?attempt, fun s hret hheld hcnt hseq => ?timeout,
    fun s hseq hstatus hlen _ => ?payload, fun s hseq hstatus hlen hret hheld => ?one,
    fun s hseq hret hheld => ?release⟩
  case start =>
    rw [step_hostEvent hfree.1 hgrain hhost (i := .xcmd c a l) rfl rfl]
    have hadmitted : xcmdAdmitted l (takeRequest ⟨0b011#3, { o with cmd := c, arg := a, rlen := l }⟩ rest s) = none :=
      xcmdAdmitted_eq_none hfree hctx hl hl'
    simp only [beginOperation, hadmitted]
    rfl
  case send =>
    obtain ⟨st, d, heq, hst⟩ := exists_sendFrame_eq s.cmd s.arg s
    obtain ⟨rfl, rfl⟩ := hst htb
    rw [step_frame hseq, heq]
  case attempt =>
    have hdue : statusPolling s = true := by
      rw [statusPolling_iff, validStatus_eq_false_iff]
      exact ⟨hcnt, hseq⟩
    rw [step_statusPoll hdue, pollAttempt_of_exchange hret]
    rfl
  case timeout =>
    rw [← validStatus_eq_false_iff] at hseq
    obtain ⟨resp, d, heq, -⟩ := exists_drawIfOpen_eq .timeout s
    refine ⟨resp, d, ?_⟩
    rw [step_of_dueClass (dueClass_of_pollSpent hcnt hseq) (by decide), conclude_of_ret_idle _ hret, heq, finish_eq]
    simp [hheld, hret]
  case payload =>
    rw [step_responseMore ((responseDue_iff s).mpr ⟨hseq, hstatus⟩) (by omega), takePayload_eq]
  case one =>
    rw [step_responseOne ((responseDue_iff s).mpr ⟨hseq, hstatus⟩) hlen, conclude_of_ret_idle _ (s := storeStatus s) hret,
      drawIfOpen_success, storeStatus, storeBytes_one_eq_ofFn, finish_eq]
    simp [hheld, hret]
  case release =>
    have hdue : dueClass s = some .success := by simp [dueClass, hseq]
    rw [step_of_dueClass hdue (by decide), conclude_of_ret_idle _ hret, drawIfOpen_success, finish_eq]
    simp [hheld, hret]

/-! ### Everything an instruction can do -/

/-- The state after an operation that completes whole, by its row. -/
inductive OperationCase (i : Instr) (s : State) : State → Prop
  | crc7 {m : List Byte} : i = .crc7 m → Free s → OperationCase i s (crcOperation m s)
  | frame {c : BitVec 6} {a : BitVec 32} : i = .frame c a → OperationCase i s (buildFrame c a (loadCommand c a s))
  | xr1 {c : BitVec 6} {a : BitVec 32} : i = .xr1 c a → s.busHeld = false → s.ctxValid = true →
      OperationCase i s (deliverOutcome (xr1 c a (loadCommand c a s)))
  | xcmd {c : BitVec 6} {a : BitVec 32} {n : Nat} : i = .xcmd c a n → Free s → s.ctxValid = true → 1 ≤ n → n ≤ 5 →
      OperationCase i s (xcmdCall .idle c a n s)
  | rdblk {a : BitVec 32} : i = .rdblk a → Free s → s.ctxValid = true → OperationCase i s (rdblk a s)
  | init {b o : Div} {n : Nat} : i = .init b o n → Free s → OperationCase i s (initOperation b o n s)

/-- The state after a row below the operations that completes. -/
inductive RowCase (s : State) : State → Prop
  | frame {c : BitVec 6} {a : BitVec 32} : s.seq = .xPulse → RowCase s (sendFrame c a s)
  | statusPoll {b : Byte} : statusPolling s = true → RowCase s (statusByte b s)
  | readStatus {b : Byte} : statusPolling s = true → RowCase s (enterBlockCheck (statusByte b s))
  | tokenPoll {b : Byte} : tokenPolling s = true → RowCase s (tokenByte b s)
  | responseOne {b : Byte} : responseDue s = true → RowCase s (conclude .success { s with resp := storeBytes [b] s.resp })
  | responseMore {b : Byte} {bs : List Byte} : responseDue s = true → bs.length = 4 → RowCase s (storeResponse b bs s)
  | ending {r : Result} : dueClass s = some r → r ≠ .checksumError → RowCase s (conclude r s)

/-- The state after the first event of an operation at event grain; FRAME is one event. -/
inductive BeginCase (s : State) : State → Prop
  | crc7 {m : List Byte} : Free s → BeginCase s (crcBegin m s)
  | frame {c : BitVec 6} {a : BitVec 32} : BeginCase s (buildFrame c a (loadCommand c a s))
  | xcmd {c : BitVec 6} {a : BitVec 32} {n : Nat} : Free s → s.ctxValid = true → 1 ≤ n → n ≤ 5 →
      BeginCase s (beginExchange .idle c a n s)
  | rdblk {a : BitVec 32} : Free s → s.ctxValid = true → BeginCase s (acquireBus (loadRead a s))
  | init {b o : Div} {n : Nat} : Free s → BeginCase s (initBegin b o n s)

theorem conditions_of_xcmdAdmitted {n : Nat} {s : State} (h : xcmdAdmitted n s = none) :
    Free s ∧ s.ctxValid = true ∧ 1 ≤ n ∧ n ≤ 5 := by
  have hfree : Free s := free_of_admission h
  rw [xcmdAdmitted_of_free n hfree] at h
  split_ifs at h with hctx hlen
  exact ⟨hfree, by simpa using hctx, (legalRlen_iff n).mp (by simpa using hlen)⟩

theorem conditions_of_rdblkAdmitted {s : State} (h : rdblkAdmitted s = none) : Free s ∧ s.ctxValid = true := by
  have hfree : Free s := free_of_admission h
  rw [rdblkAdmitted_of_free hfree] at h
  split_ifs at h with hctx
  exact ⟨hfree, by simpa using hctx⟩

theorem operationCase_of_xr1 {c : BitVec 6} {a : BitVec 32} {s t : State} (h : exec (.xr1 c a) s = .next t) :
    OperationCase (.xr1 c a) s t := by
  rw [exec_xr1] at h
  split_ifs at h with hheld hctx
  cases h
  exact .xr1 rfl (by simpa using hheld) (by simpa using hctx)

theorem rowCase_of_execFrame48 {c : BitVec 6} {a : BitVec 32} {s t : State} (h : execFrame48 c a s = .next t) :
    RowCase s t := by
  obtain ⟨hseq, rfl⟩ := next_of_guard h
  exact .frame hseq

theorem rowCase_of_execStValid {f : BitVec 7} {s t : State} (h : execStValid f s = .next t) : RowCase s t := by
  obtain ⟨hdue, rfl⟩ := next_of_guard h
  split
  · exact .readStatus hdue
  · exact .statusPoll hdue

theorem rowCase_of_tokenAttempt {b : Byte} {s t : State} (h : tokenAttempt b s = .next t) : RowCase s t := by
  obtain ⟨hdue, rfl⟩ := next_of_guard h
  exact .tokenPoll hdue

theorem rowCase_of_endWith {r : Result} {s t : State} (h : endWith r s = .next t) (hr : r ≠ .checksumError) :
    RowCase s t := by
  obtain ⟨hdue, rfl⟩ := next_of_guard h
  exact .ending hdue hr

/-- An instruction that completes did what its row says: an operation, or a row below them. -/
theorem cases_of_exec {i : Instr} {s t : State} (h : exec i s = .next t) : OperationCase i s t ∨ RowCase s t := by
  cases i with
  | crc7 m =>
    obtain ⟨hadmitted, rfl⟩ := next_of_admission h
    exact .inl (.crc7 rfl ((admitted_eq_none_iff s).mp hadmitted))
  | frame c a => rw [← exec_frame_eq_next h]; exact .inl (.frame rfl)
  | xr1 c a => exact .inl (operationCase_of_xr1 h)
  | xcmd c a n =>
    obtain ⟨hadmitted, rfl⟩ := next_of_admission h
    obtain ⟨hfree, hctx, hn, hn'⟩ := conditions_of_xcmdAdmitted hadmitted
    exact .inl (.xcmd rfl hfree hctx hn hn')
  | rdblk a =>
    obtain ⟨hadmitted, rfl⟩ := next_of_admission h
    obtain ⟨hfree, hctx⟩ := conditions_of_rdblkAdmitted hadmitted
    exact .inl (.rdblk rfl hfree hctx)
  | init b o n =>
    obtain ⟨hfree, rfl⟩ := exec_init_eq_next h
    exact .inl (.init rfl hfree)
  | reservedOp x => cases h
  | cmdn c a k => exact .inr (rowCase_of_execFrame48 (execFrame48_of_cmdn h))
  | cmd0 => exact .inr (rowCase_of_execFrame48 (c := 0#6) (a := zeroArg) h)
  | cmd8 => exact .inr (rowCase_of_execFrame48 (c := 8#6) (a := checkArg) h)
  | cmd55 => exact .inr (rowCase_of_execFrame48 (c := 55#6) (a := zeroArg) h)
  | acmd41 => exact .inr (rowCase_of_execFrame48 (c := 41#6) (a := hcsArg) h)
  | cmd58 => exact .inr (rowCase_of_execFrame48 (c := 58#6) (a := zeroArg) h)
  | cmd17 a k => exact .inr (rowCase_of_execFrame48 (execFrame48_of_cmdn (c := readCmd) h))
  | r1 f =>
    obtain ⟨⟨hdue, -⟩, rfl⟩ := next_of_guard h
    exact .inr (.responseOne hdue)
  | r3r7 f p1 p2 p3 p4 =>
    obtain ⟨⟨hdue, -⟩, rfl⟩ := next_of_guard h
    exact .inr (.responseMore hdue rfl)
  | stValid f => exact .inr (rowCase_of_execStValid h)
  | stSkip x =>
    obtain ⟨hdue, rfl⟩ := next_of_guard h
    exact .inr (.statusPoll hdue)
  | tkFill => exact .inr (rowCase_of_tokenAttempt h)
  | tkStart => exact .inr (rowCase_of_tokenAttempt h)
  | tkOther b => exact .inr (rowCase_of_tokenAttempt h)
  | success => exact .inr (rowCase_of_endWith (r := .success) h (by decide))
  | timeout => exact .inr (rowCase_of_endWith (r := .timeout) h (by decide))
  | notSupported => exact .inr (rowCase_of_endWith (r := .notSupported) h (by decide))
  | badResponse => exact .inr (rowCase_of_endWith (r := .badResponse) h (by decide))
  | checksumError => cases h

/-- No row below the operations completes on an idle block (R92). -/
theorem RowCase.seq_ne_idle {s t : State} (h : RowCase s t) : s.seq ≠ .idle := by
  intro hseq
  cases h with
  | frame hpulse => simp [hseq] at hpulse
  | statusPoll hdue => simp [statusPolling, hseq] at hdue
  | readStatus hdue => simp [statusPolling, hseq] at hdue
  | tokenPoll hdue => simp [tokenPolling, hseq] at hdue
  | responseOne hdue => simp [responseDue, hseq] at hdue
  | responseMore hdue => simp [responseDue, hseq] at hdue
  | ending hdue => simp [dueClass, hseq] at hdue

/-- On an idle block only operations complete. -/
theorem operationCase_of_exec {i : Instr} {s t : State} (hseq : s.seq = .idle) (h : exec i s = .next t) :
    OperationCase i s t :=
  (cases_of_exec h).resolve_right fun hrow => hrow.seq_ne_idle hseq

theorem operationCase_of_beginOperation {i : Instr} {s t : State} (hwhole : beginOperation i = exec i) (hseq : s.seq = .idle)
    (h : beginOperation i s = .next t) : OperationCase i s t :=
  operationCase_of_exec hseq ((congrFun hwhole s).symm.trans h)

/-- On an idle block the host begins an operation by its first event. -/
theorem beginCase_of_beginOperation {i : Instr} {s t : State} (hseq : s.seq = .idle) (hissue : hostMayIssue i = true)
    (h : beginOperation i s = .next t) : BeginCase s t := by
  cases i with
  | crc7 m =>
    obtain ⟨hadmitted, rfl⟩ := next_of_admission h
    exact .crc7 ((admitted_eq_none_iff s).mp hadmitted)
  | xcmd c a n =>
    obtain ⟨hadmitted, rfl⟩ := next_of_admission h
    obtain ⟨hfree, hctx, hn, hn'⟩ := conditions_of_xcmdAdmitted hadmitted
    exact .xcmd hfree hctx hn hn'
  | rdblk a =>
    obtain ⟨hadmitted, rfl⟩ := next_of_admission h
    obtain ⟨hfree, hctx⟩ := conditions_of_rdblkAdmitted hadmitted
    exact .rdblk hfree hctx
  | init b o n =>
    obtain ⟨hadmitted, rfl⟩ := next_of_admission h
    exact .init ((admitted_eq_none_iff s).mp hadmitted)
  | frame c a => rw [← exec_frame_eq_next (c := c) (a := a) h]; exact .frame
  | xr1 c a => cases hissue
  | _ =>
    cases operationCase_of_beginOperation rfl hseq h <;> contradiction

/-! ### Everything a step can do -/

/-- SEQ is a state of INIT from which an exchange begins. -/
def callsExchange : Seq → Bool
  | .iCfg | .iS1 | .iS2 | .iS3A | .iS3B => true
  | .idle | .cRun | .xAcq | .xPulse | .xSend | .xPoll | .xPayload | .xRel | .iS4 | .iS5
  | .bCheck | .bToken | .bData | .bRel => false

/-- The state after a step that completes, by what the step did. -/
inductive StepCase (s : State) : State → Prop
  /-- Nothing: no request is pending, or SEQ is the state that is never rested in. -/
  | rest : s.seq = .idle ∨ s.seq = .xRel → StepCase s s
  /-- The running exchange or operation ended. -/
  | ending {r : Result} : dueClass s = some r → r ≠ .checksumError → StepCase s (conclude r s)
  /-- A request ran whole. -/
  | operation {r : Request} {rest : List Request} {i : Instr} {t : State} : s.seq = .idle → s.grain = .operation →
      OperationCase i (takeRequest r rest s) t → StepCase s t
  /-- A request was begun. -/
  | begun {r : Request} {rest : List Request} {t : State} : s.seq = .idle →
      BeginCase (takeRequest r rest s) t → StepCase s t
  /-- A byte of a checksum's message, or its end. -/
  | absorb : s.seq = .cRun → StepCase s (crcAbsorb s)
  /-- The settling pulse. -/
  | settle : s.seq = .xAcq → StepCase s (pulse s)
  /-- The frame of CMD and ARG. -/
  | frame : s.seq = .xPulse → StepCase s (sendFrame s.cmd s.arg s)
  /-- A status poll attempt. -/
  | statusPoll : statusPolling s = true → StepCase s (pollAttempt s)
  /-- A response of one byte, and the end of its exchange. -/
  | responseOne : responseDue s = true → s.rlen = 1 → StepCase s (conclude .success (storeStatus s))
  /-- A longer response. -/
  | responseMore : responseDue s = true → s.rlen ≠ 1 → StepCase s (takePayload s.rlen s)
  /-- A token poll attempt. -/
  | tokenPoll : tokenPolling s = true → StepCase s (tokenByte (s.rxAt 0) (s.rxDrop 1))
  /-- The data block. -/
  | data : s.seq = .bToken → StepCase s (takeData s)
  /-- The two checksum bytes after it. -/
  | drain : s.seq = .bData → StepCase s (drainChecksum s)
  /-- INIT's idle clocks. -/
  | preamble : s.seq = .iCfg → StepCase s (preamble s)
  /-- An exchange that INIT calls, a unit of ATT_CNT spent where an attempt begins with it. -/
  | call {ret : Seq} {c : BitVec 6} {a : BitVec 32} {n att : Nat} : callsExchange s.seq = true →
      legalRlen n = true → att ≤ s.attCnt → StepCase s (beginExchange ret c a n { s with attCnt := att })
  /-- The operating divisor. -/
  | speedUp : s.seq = .iS4 → StepCase s (configure s.ctxDiv { s with seq := .iS5 })

theorem stepCase_of_dueClass {s t : State} {r : Result} (hdue : dueClass s = some r) (h : step s = .next t) :
    StepCase s t := by
  by_cases hr : r = .checksumError
  case pos =>
    subst hr
    rw [step_eq_exec (fetch_result hdue) (by simp) (i := .checksumError) rfl] at h
    cases h
  case neg =>
    rw [step_of_dueClass hdue hr] at h
    cases h
    exact .ending hdue hr

theorem stepCase_of_host {s t : State} {r : Request} {rest : List Request} (hseq : s.seq = .idle) (hhost : s.host = r :: rest)
    (h : step s = .next t) : StepCase s t := by
  rw [step_of_fetch_word (fetch_host hseq hhost) (i := decodeOp r.code r.opr) rfl, runWord] at h
  split at h
  case isFalse => cases h
  case isTrue hissue =>
    cases hgrain : s.grain with
    | operation =>
      have htaken : (takeRequest r rest s).grain = .operation := hgrain
      rw [htaken] at h
      exact .operation hseq hgrain (operationCase_of_exec hseq h)
    | event =>
      have htaken : (takeRequest r rest s).grain = .event := hgrain
      rw [htaken] at h
      exact .begun hseq (beginCase_of_beginOperation hseq hissue h)

theorem stepCase_of_step {s t : State} (h : step s = .next t) : StepCase s t := by
  cases hdue : dueClass s with
  | some r => exact stepCase_of_dueClass hdue h
  | none =>
    have hnext {u : State} (hstep : step s = .next u) : t = u := Host.Outcome.next.inj (h.symm.trans hstep)
    cases hseq : s.seq with
    | idle =>
      cases hhost : s.host with
      | nil => rw [hnext (idleWithoutRequestStays s hseq hhost)]; exact .rest (.inl hseq)
      | cons r rest => exact stepCase_of_host hseq hhost h
    | cRun => rw [hnext (step_absorb hseq)]; exact .absorb hseq
    | xAcq => rw [hnext (step_pulse hseq)]; exact .settle hseq
    | xPulse => rw [hnext (step_frame hseq)]; exact .frame hseq
    | xSend =>
      have hpoll : statusPolling s = true := by simpa [dueClass, statusPolling, hseq] using hdue
      rw [hnext (step_statusPoll hpoll)]
      exact .statusPoll hpoll
    | xPoll =>
      cases hvalid : validStatus s.status with
      | false =>
        have hpoll : statusPolling s = true := by simpa [dueClass, statusPolling, hseq, hvalid] using hdue
        rw [hnext (step_statusPoll hpoll)]
        exact .statusPoll hpoll
      | true =>
        have hresponse : responseDue s = true := by simp [responseDue, hseq, hvalid]
        by_cases hlen : s.rlen = 1
        · rw [hnext (step_responseOne hresponse hlen)]; exact .responseOne hresponse hlen
        · rw [hnext (step_responseMore hresponse hlen)]; exact .responseMore hresponse hlen
    | xPayload => simp [dueClass, hseq] at hdue
    | xRel =>
      have hfetch : fetch s = .quiet := by rw [fetch_of_no_dueClass hdue]; simp [sequencerEvent, hseq]
      rw [hnext (show step s = .next s by rw [step, hfetch])]
      exact .rest (.inr hseq)
    | iCfg =>
      have hstep := step_initBegun hseq
      split at hstep
      · rw [hnext hstep]; exact .call (att := s.attCnt) (by rw [hseq]; rfl) rfl le_rfl
      · rw [hnext hstep]; exact .preamble hseq
    | iS1 =>
      have htest : resetTest s = none := by simpa [dueClass, hseq] using hdue
      rw [hnext (step_resetDone hseq htest)]
      exact .call (att := s.attCnt) (by rw [hseq]; rfl) rfl le_rfl
    | iS2 =>
      cases htest : interfaceTest s with
      | some r => simp [dueClass, hseq, htest] at hdue
      | none =>
        have hatt : s.attCnt ≠ 0 := by simpa [dueClass, hseq, htest] using hdue
        rw [hnext (step_interfaceDone hseq htest hatt)]
        exact .call (by rw [hseq]; rfl) rfl (Nat.sub_le ..)
    | iS3A =>
      rw [hnext (step_prefixDone hseq)]
      exact .call (att := s.attCnt) (by rw [hseq]; rfl) rfl le_rfl
    | iS3B =>
      cases hready : cardReady s with
      | true => rw [hnext (step_ready hseq hready)]; exact .call (att := s.attCnt) (by rw [hseq]; rfl) rfl le_rfl
      | false =>
        have hatt : s.attCnt ≠ 0 := by simpa [dueClass, hseq, hready] using hdue
        rw [hnext (step_notReady hseq hready hatt)]
        exact .call (by rw [hseq]; rfl) rfl (Nat.sub_le ..)
    | iS4 =>
      have htest : capacityTest s = none := by simpa [dueClass, hseq] using hdue
      rw [hnext (step_capacityDone hseq htest)]
      exact .speedUp hseq
    | iS5 => simp [dueClass, hseq] at hdue
    | bCheck =>
      have hgood : s.status = 0#8 := by
        by_contra hbad
        simp [dueClass, hseq, hbad] at hdue
      have hpoll : tokenPolling s = true := by simpa [dueClass, tokenPolling, hseq, hgood] using hdue
      rw [hnext (step_token hpoll)]
      exact .tokenPoll hpoll
    | bToken =>
      cases hfiller : isFiller s.token with
      | true =>
        have hpoll : tokenPolling s = true := by simpa [dueClass, tokenPolling, hseq, hfiller] using hdue
        rw [hnext (step_token hpoll)]
        exact .tokenPoll hpoll
      | false =>
        have hstart : s.token = startToken := by simpa [dueClass, hseq, hfiller] using hdue
        rw [hnext (step_takeData hseq hstart)]
        exact .data hseq
    | bData =>
      have hdrain : s.cfg.drainCrc = true := by simpa [dueClass, hseq] using hdue
      rw [hnext (step_drain hseq hdrain)]
      exact .drain hseq
    | bRel => simp [dueClass, hseq] at hdue

end Sys2Proof.Machine

/-! PROOFS. INIT read off the bytes of RX (43_handshake.md R170 to R181): along its exchanges the block stands at a place in RX
that the bytes before it determine, and so the table of R180 gives the ending. -/

namespace Sys2Proof.Machine

open Spec

/-! ### Where the status poll of an exchange ends -/

theorem pollEnd_eq_some_iff (s : State) (n p k : Nat) : pollEnd s n p = some k ↔ k < n ∧ FirstValid s p k := by
  rw [pollEnd, List.find?_range_eq_some]
  simp only [List.mem_range, Bool.not_eq_eq_eq_not, Bool.not_true, Bool.not_not, FirstValid, AllSkip]
  tauto

theorem pollEnd_eq_none_iff (s : State) (n p : Nat) : pollEnd s n p = none ↔ AllSkip s p n := by
  rw [pollEnd, List.find?_range_eq_none]
  simp only [Bool.not_not, AllSkip]

/-! ### The discipline of a transaction -/

theorem tracePhase_cons_of {h : List Event} {e : Event} {p q : Phase} (hp : tracePhase h = some p)
    (hafter : p.after e = some q) : tracePhase (e :: h) = some q := by rw [tracePhase, hp]; exact hafter

/-- Receptions leave the transaction where its frame has been sent. -/
theorem tracePhase_receptions {h rs : List Event} (hh : tracePhase h = some .sent)
    (hrs : ∀ e ∈ rs, isLegalReception e = true) : tracePhase (rs ++ h) = some .sent := by
  induction rs with
  | nil => exact hh
  | cons e rs ih =>
    obtain ⟨he, hrs⟩ := List.forall_mem_cons.mp hrs
    refine tracePhase_cons_of (ih hrs) ?_
    cases e with
    | rx b => rfl
    | rxn bs => exact if_pos he
    | _ => cases he

/-- The frame is one the framer builds (R80, R89). -/
theorem goodFrame_frame (c : BitVec 6) (a : BitVec 32) : goodFrame (frame c a).toList = true := by
  have hstart : (frameByte0 c).extractLsb' 6 2 = 1#2 := by
    rw [frameByte0_eq_append]
    exact BitVec.extractLsb'_append_eq_left
  have hgood : goodFrame (frame c a).toList =
      (decide ((frameByte0 c).extractLsb' 6 2 = 1#2) && decide (frameByte5 c a = crc7 (frameHead c a) ||| stopBit)) := rfl
  rw [hgood, hstart, frameByte5, frameSum]
  simp

/-- A transaction begun outside any other stands where its frame has been sent (R57). -/
theorem tracePhase_openTransaction {s : State} (c : BitVec 6) (a : BitVec 32) {rs : List Event}
    (hs : tracePhase s.txRev = some .free) (hrs : ∀ e ∈ rs, isLegalReception e = true) :
    tracePhase (extend s (openTransaction c a rs)) = some .sent := by
  rw [extend, openTransaction, List.reverse_append, List.append_assoc]
  refine tracePhase_receptions ?_ fun e he => hrs e (List.mem_reverse.mp he)
  have hacquired := tracePhase_cons_of (e := .acquire) hs rfl
  have hsettled := tracePhase_cons_of (e := .idle 1) hacquired rfl
  exact tracePhase_cons_of (e := .send (frame c a).toList) hsettled (if_pos (goodFrame_frame c a))

/-- A whole transaction begun outside any other ends outside any (R57). -/
theorem tracePhase_transaction {s : State} (c : BitVec 6) (a : BitVec 32) {rs : List Event}
    (hs : tracePhase s.txRev = some .free) (hrs : ∀ e ∈ rs, isLegalReception e = true) :
    tracePhase (extend s (transaction c a rs)) = some .free := by
  have hreleased : extend s (transaction c a rs) = .release :: extend s (openTransaction c a rs) := by
    simp [extend, transaction, openTransaction]
  rw [hreleased]
  exact tracePhase_cons_of (tracePhase_openTransaction c a hs hrs) rfl

/-- An exchange with a legal response length keeps the discipline and the length legal (R54, R57, R94). -/
theorem xcmdCall_phase (ret : Seq) (c : BitVec 6) (a : BitVec 32) {l : Nat} (hl : 1 ≤ l) (hl' : l ≤ 5) {s : State}
    (hs : tracePhase s.txRev = some .free) :
    tracePhase (xcmdCall ret c a l s).txRev = some .free ∧ (xcmdCall ret c a l s).rlen = l := by
  rcases exists_firstValid_or_allSkip s 0 s.ctxTb with ⟨k, hk, hvalid⟩ | hskip
  · rw [xcmdCall_of_firstValid ret c a hl hk hvalid]
    refine ⟨tracePhase_transaction c a hs (List.forall_mem_append.mpr ⟨isLegalReception_map_rx _, ?_⟩), rfl⟩
    split
    case isTrue => simp
    case isFalse hmore =>
      simp only [List.mem_singleton, forall_eq, isLegalReception, legalReception, rxFrom, List.length_map,
        List.length_range, Bool.or_eq_true, Bool.and_eq_true, decide_eq_true_eq]
      omega
  · obtain ⟨st, drawn, d, heq, -⟩ := exists_xcmdCall_of_allSkip ret c a l hskip
    rw [heq]
    exact ⟨tracePhase_transaction c a hs (isLegalReception_map_rx _), rfl⟩

/-! ### The state of an INIT between two of its exchanges -/

/-- The frames of a history, one more transaction included. -/
theorem framesSent_append (es fs : List Event) : framesSent (es ++ fs) = framesSent es ++ framesSent fs :=
  List.filterMap_append ..

theorem framesSent_receptions {rs : List Event} (h : ∀ e ∈ rs, isReception e = true) : framesSent rs = [] := by
  refine List.filterMap_eq_nil_iff.mpr fun e he => ?_
  cases e with
  | send bs => exact absurd (h _ he) (by simp [isReception])
  | _ => rfl

theorem framesSent_transaction (c : BitVec 6) (a : BitVec 32) {rs : List Event} (h : ∀ e ∈ rs, isReception e = true) :
    framesSent (transaction c a rs) = [(frame c a).toList] := by
  rw [transaction, framesSent_append, framesSent_append, framesSent_receptions h]
  rfl

/-- Outside any transaction the discipline is kept, and RLEN is a legal length (R57, R94). -/
def Disciplined (s : State) : Prop := tracePhase s.txRev = some .free ∧ legalRlen s.rlen = true

/-- From `s` to `u` the block took `p` bytes of RX and made one transaction for each of the frames `fs`; `n` and `o` are the
context. -/
structure Tracks (s : State) (n : Nat) (o : Div) (p : Nat) (fs : List (List Byte)) (u : State) : Prop where
  rx : u.rx = s.rx.drop p
  rxPos : u.rxPos = s.rxPos + p
  context : u.ctxTb = n ∧ u.ctxDiv = o ∧ u.ctxValid = true
  cfg : u.cfg = s.cfg
  busHeld : u.busHeld = false
  acquires : acquires u.tx = acquires s.tx + fs.length
  releases : releases u.tx = releases s.tx + fs.length
  frames : framesSent u.tx = framesSent s.tx ++ fs
  disciplined : Disciplined s → Disciplined u

namespace Tracks

variable {s u v : State} {n p : Nat} {o : Div} {fs : List (List Byte)}

theorem rxAt (h : Tracks s n o p fs u) (i : Nat) : u.rxAt i = s.rxAt (p + i) := by
  rw [← rxAt_rxDrop]
  exact rxAt_congr (s := s.rxDrop p) h.rx h.rxPos i

/-- An ending with the bus free makes no event and takes no byte. -/
theorem finish (h : Tracks s n o p fs u) (r : Result) : Tracks s n o p fs (finish r u) := by
  have heq : Machine.finish r u = { u with result := r, seq := .idle, ret := .idle } := by
    rw [finish_eq]
    simp [h.busHeld]
  rw [heq]
  exact ⟨h.rx, h.rxPos, h.context, h.cfg, h.busHeld, h.acquires, h.releases, h.frames, h.disciplined⟩

/-- A configuration is no transaction. -/
theorem configure (h : Tracks s n o p fs u) (d : Div) : Tracks s n o p fs (configure d u) := by
  refine ⟨h.rx, h.rxPos, h.context, h.cfg, h.busHeld, ?_, ?_, ?_,
    fun hs => ⟨tracePhase_cons_of (h.disciplined hs).1 rfl, (h.disciplined hs).2⟩⟩
  · rw [configure_tx, acquires_append, h.acquires]; rfl
  · rw [configure_tx, releases_append, h.releases]; rfl
  · rw [configure_tx, framesSent_append, h.frames]; exact List.append_nil _

theorem setAttCnt (h : Tracks s n o p fs u) (m : Nat) : Tracks s n o p fs { u with attCnt := m } :=
  ⟨h.rx, h.rxPos, h.context, h.cfg, h.busHeld, h.acquires, h.releases, h.frames, h.disciplined⟩

/-- The discipline is kept by one more exchange. -/
theorem xcmdCall_disciplined (h : Tracks s n o p fs u) (ret : Seq) (c : BitVec 6) (a : BitVec 32) {l : Nat} (hl : 1 ≤ l)
    (hl' : l ≤ 5) (hs : Disciplined s) : Disciplined (xcmdCall ret c a l u) := by
  obtain ⟨hphase, hlen⟩ := xcmdCall_phase ret c a hl hl' (h.disciplined hs).1
  exact ⟨hphase, by rw [hlen, legalRlen_iff]; exact ⟨hl, hl'⟩⟩

/-- The counts after one more transaction. -/
theorem counts (h : Tracks s n o p fs u) {c : BitVec 6} {a : BitVec 32} {rs : List Event}
    (hrs : ∀ e ∈ rs, isReception e = true) (htx : v.tx = u.tx ++ Spec.transaction c a rs) :
    Spec.acquires v.tx = Spec.acquires s.tx + (fs ++ [(frame c a).toList]).length ∧
    Spec.releases v.tx = Spec.releases s.tx + (fs ++ [(frame c a).toList]).length ∧
    framesSent v.tx = framesSent s.tx ++ (fs ++ [(frame c a).toList]) := by
  obtain ⟨hacquires, hreleases, -⟩ := transaction_counts c a hrs
  rw [htx, acquires_append, releases_append, framesSent_append, hacquires, hreleases, framesSent_transaction c a hrs,
    h.acquires, h.releases, h.frames]
  simp [Nat.add_assoc]

end Tracks

/-- The exchange from offset `p` on found its status byte at `q` and took `l` bytes from there (R155). -/
structure Answered (s : State) (q l : Nat) (u v : State) : Prop where
  result : v.result = .success
  status : v.status = s.rxAt q
  resp : v.resp = Vector.ofFn (fun i : Fin 5 => if i.val < l then s.rxAt (q + i.val) else u.resp[i])
  attCnt : v.attCnt = u.attCnt

/-- The exchange from offset `p` on timed out after its `n` attempts (R153, R155). -/
structure Unanswered (s : State) (n p : Nat) (u v : State) : Prop where
  result : v.result = .timeout
  status : n ≠ 0 → v.status = s.rxAt (p + n - 1)
  attCnt : v.attCnt = u.attCnt

section Call

variable {s u : State} {n p : Nat} {o : Div} {fs : List (List Byte)} (ret : Seq) (c : BitVec 6) (a : BitVec 32)

/-- An exchange answered at `p + k` (R155, R157). -/
theorem tracks_xcmdCall_of_some (h : Tracks s n o p fs u) {l k : Nat} (hl : 1 ≤ l) (hl' : l ≤ 5) (hk : pollEnd s n p = some k) :
    Tracks s n o (p + k + l) (fs ++ [(frame c a).toList]) (xcmdCall ret c a l u) ∧
      Answered s (p + k) l u (xcmdCall ret c a l u) := by
  obtain ⟨hlt, hskip, hvalid⟩ := (pollEnd_eq_some_iff s n p k).mp hk
  obtain ⟨htb, hdiv, hctx⟩ := h.context
  have hrx (i : Nat) : u.rxAt i = s.rxAt (p + i) := h.rxAt i
  have hfirst : FirstValid u 0 k := by
    refine ⟨fun j hj => ?_, ?_⟩
    · rw [hrx, Nat.zero_add]; exact hskip j hj
    · rw [hrx, Nat.zero_add]; exact hvalid
  obtain ⟨⟨rs, hrs, htx⟩, -, -⟩ := xcmdCall_spec ret c a l u
  obtain ⟨hacquires, hreleases, hframes⟩ := h.counts hrs htx
  have hdisciplined := h.xcmdCall_disciplined ret c a hl hl'
  have heq := xcmdCall_of_firstValid ret c a hl (htb ▸ hlt) hfirst
  refine ⟨⟨?_, ?_, ?_, ?_, ?_, hacquires, hreleases, hframes, hdisciplined⟩, ⟨?_, ?_, ?_, ?_⟩⟩ <;> rw [heq]
  · simp [h.rx, Nat.add_assoc]
  · simp [h.rxPos, Nat.add_assoc]
  · exact ⟨htb, hdiv, hctx⟩
  · exact h.cfg
  · exact hrx k
  · simp [hrx, Nat.add_assoc]

/-- An exchange not answered (R153, R155). -/
theorem tracks_xcmdCall_of_none (h : Tracks s n o p fs u) {l : Nat} (hl : 1 ≤ l) (hl' : l ≤ 5) (hk : pollEnd s n p = none) :
    Tracks s n o (p + n) (fs ++ [(frame c a).toList]) (xcmdCall ret c a l u) ∧
      Unanswered s n p u (xcmdCall ret c a l u) := by
  obtain ⟨htb, hdiv, hctx⟩ := h.context
  have hrx (i : Nat) : u.rxAt i = s.rxAt (p + i) := h.rxAt i
  have hskip : AllSkip u 0 u.ctxTb := by
    intro j hj
    rw [hrx, Nat.zero_add]
    exact (pollEnd_eq_none_iff s n p).mp hk j (htb ▸ hj)
  obtain ⟨⟨rs, hrs, htx⟩, -, -⟩ := xcmdCall_spec ret c a l u
  obtain ⟨hacquires, hreleases, hframes⟩ := h.counts hrs htx
  have hdisciplined := h.xcmdCall_disciplined ret c a hl hl'
  obtain ⟨st, drawn, d, heq, hst⟩ := exists_xcmdCall_of_allSkip ret c a l hskip
  refine ⟨⟨?_, ?_, ?_, ?_, ?_, hacquires, hreleases, hframes, hdisciplined⟩, ⟨?_, ?_, ?_⟩⟩ <;> rw [heq]
  · simp [h.rx, htb]
  · simp [h.rxPos, htb, Nat.add_assoc]
  · exact ⟨htb, hdiv, hctx⟩
  · exact h.cfg
  · intro hn
    have hlast := hst (htb ▸ hn)
    rw [hrx, htb, ← Nat.add_sub_assoc (Nat.one_le_iff_ne_zero.mpr hn)] at hlast
    exact hlast

end Call

/-! ### Step 3 -/

/-- The frames of an attempt: commands 55 and 41 (R174). -/
def attemptFrames : List (List Byte) := [(frame 55#6 zeroArg).toList, (frame 41#6 hcsArg).toList]

section Attempt

variable {s u : State} {n p : Nat} {o : Div} {fs : List (List Byte)}

/-- An exchange of one byte, answered or not, ends at its place in RX, with the last byte taken in STATUS (R157). -/
theorem tracks_xcmdCall_one (ret : Seq) (c : BitVec 6) (a : BitVec 32) (h : Tracks s n o p fs u) :
    Tracks s n o (afterExchange s n 1 p) (fs ++ [(frame c a).toList]) (xcmdCall ret c a 1 u) ∧
      (xcmdCall ret c a 1 u).attCnt = u.attCnt ∧
      (n ≠ 0 → (xcmdCall ret c a 1 u).status = s.rxAt (afterExchange s n 1 p - 1)) := by
  rw [afterExchange]
  cases hk : pollEnd s n p with
  | some k =>
    obtain ⟨htracks, hanswer⟩ := tracks_xcmdCall_of_some ret c a h le_rfl (by decide) hk
    exact ⟨htracks, hanswer.attCnt, fun _ => hanswer.status⟩
  | none =>
    obtain ⟨htracks, hanswer⟩ := tracks_xcmdCall_of_none ret c a h le_rfl (by decide) hk
    exact ⟨htracks, hanswer.attCnt, hanswer.status⟩

/-- The stop test of step 3, on the bytes of RX (R175). -/
theorem cardReady_callNegotiate (h : Tracks s n o p fs u) : cardReady (callNegotiate u) =
    match pollEnd s n p with
    | some k => decide (s.rxAt (p + k) = 0x00#8)
    | none => false := by
  rw [callNegotiate, cardReady]
  cases hk : pollEnd s n p with
  | some k =>
    obtain ⟨-, hanswer⟩ := tracks_xcmdCall_of_some .iS3B 41#6 hcsArg h le_rfl (by decide) hk
    simp [hanswer.result, hanswer.status]
  | none =>
    obtain ⟨-, hanswer⟩ := tracks_xcmdCall_of_none .iS3B 41#6 hcsArg h le_rfl (by decide) hk
    simp [hanswer.result]

/-- Where an attempt from offset `p` on ends (R174). -/
def afterAttempt (s : State) (n p : Nat) : Nat := afterExchange s n 1 (afterExchange s n 1 p)

/-- One attempt (R174). -/
theorem tracks_attempt (h : Tracks s n o p fs u) :
    Tracks s n o (afterAttempt s n p) (fs ++ attemptFrames) (attempt u) ∧ (attempt u).attCnt = u.attCnt - 1 ∧
      cardReady (attempt u) = attemptReady s n p ∧
      (n ≠ 0 → (attempt u).status = s.rxAt (afterAttempt s n p - 1)) := by
  have hspent := h.setAttCnt (u.attCnt - 1)
  obtain ⟨hprefix, hprefixAtt, -⟩ := tracks_xcmdCall_one .iS3A 55#6 zeroArg hspent
  obtain ⟨hcall, hcallAtt, hstatus⟩ := tracks_xcmdCall_one .iS3B 41#6 hcsArg hprefix
  rw [List.append_assoc] at hcall
  refine ⟨hcall, hcallAtt.trans hprefixAtt, ?_, hstatus⟩
  rw [attempt, cardReady_callNegotiate (u := callPrefix _) hprefix]
  rfl

theorem negotiation_succ (s : State) (n m p : Nat) : negotiation s n (m + 1) p =
    if attemptReady s n p then (true, 1, afterAttempt s n p)
    else ((negotiation s n m (afterAttempt s n p)).1, (negotiation s n m (afterAttempt s n p)).2.1 + 1,
      (negotiation s n m (afterAttempt s n p)).2.2) := rfl

/-- The negotiation (R174 to R176). -/
theorem tracks_negotiate (m : Nat) (h : Tracks s n o p fs u) :
    (negotiate m u).1 = (negotiation s n m p).1 ∧
      Tracks s n o (negotiation s n m p).2.2 (fs ++ (List.replicate (negotiation s n m p).2.1 attemptFrames).flatten)
        (negotiate m u).2 ∧
      (negotiate m u).2.attCnt = u.attCnt - (negotiation s n m p).2.1 ∧
      (m ≠ 0 → n ≠ 0 → (negotiate m u).2.status = s.rxAt ((negotiation s n m p).2.2 - 1)) := by
  induction m generalizing p fs u with
  | zero => exact ⟨rfl, by simpa [negotiate, negotiation] using h, rfl, fun hm => absurd rfl hm⟩
  | succ m ih =>
    obtain ⟨htracks, hatt, hready, hstatus⟩ := tracks_attempt h
    rw [negotiate, hready, negotiation_succ]
    cases attemptReady s n p with
    | true => simpa [hatt] using ⟨htracks, hstatus⟩
    | false =>
      obtain ⟨ihready, ihtracks, ihatt, ihstatus⟩ := ih htracks
      simp only [Bool.false_eq_true, if_false]
      refine ⟨ihready, ?_, ?_, fun _ hn => ?_⟩
      · rw [List.replicate_succ, List.flatten_cons, ← List.append_assoc]
        exact ihtracks
      · rw [ihatt, hatt, Nat.sub_sub, Nat.add_comm 1]
      · cases m with
        | zero => exact hstatus hn
        | succ m => exact ihstatus (Nat.succ_ne_zero m) hn

end Attempt

/-- A negotiation makes at most its budget of attempts, all of them when it does not end ready, and takes at most twice the
timeout bound of bytes in each (R174 to R176). -/
theorem negotiation_bounds (s : State) (n m p : Nat) :
    (negotiation s n m p).2.1 ≤ m ∧ ((negotiation s n m p).1 = true → (negotiation s n m p).2.1 ≠ 0) ∧
      ((negotiation s n m p).1 = false → (negotiation s n m p).2.1 = m) ∧
      (negotiation s n m p).2.2 ≤ p + (negotiation s n m p).2.1 * (2 * n) := by
  have hexchange (q : Nat) : afterExchange s n 1 q ≤ q + n := by
    rw [afterExchange]
    cases hk : pollEnd s n q with
    | some k =>
      obtain ⟨hlt, -⟩ := (pollEnd_eq_some_iff s n q k).mp hk
      dsimp only
      omega
    | none => exact le_rfl
  induction m generalizing p with
  | zero => simp [negotiation]
  | succ m ih =>
    have hattempt : afterAttempt s n p ≤ p + 2 * n := by
      have h1 := hexchange p
      have h2 := hexchange (afterExchange s n 1 p)
      rw [afterAttempt]
      omega
    rw [negotiation_succ]
    split
    case isTrue => exact ⟨by dsimp only; omega, by simp, by simp, by dsimp only; omega⟩
    case isFalse =>
      obtain ⟨hle, -, hall, hbytes⟩ := ih (afterAttempt s n p)
      refine ⟨Nat.succ_le_succ hle, by simp, fun hno => congrArg Nat.succ (hall hno), ?_⟩
      dsimp only
      rw [Nat.add_mul]
      omega

/-! ### The endings -/

/-- The frames of an INIT before its last command, after `a` attempts: commands 0 and 8 and the attempts' (R172 to R174). -/
def openingFrames (a : Nat) : List (List Byte) :=
  [(frame 0#6 zeroArg).toList, (frame 8#6 checkArg).toList] ++ (List.replicate a attemptFrames).flatten

theorem openingFrames_length (a : Nat) : (openingFrames a).length = 2 * a + 2 := by
  simp [openingFrames, attemptFrames]
  omega

/-- The spec's frames, byte by byte, are those the framer builds (R91). -/
theorem handshakeFrames_eq (e : InitEnding) : handshakeFrames e =
    (openingFrames (e.attempts.getD 0) ++ [(frame 58#6 zeroArg).toList]).take e.transactions := by
  have h0 : (frame 0#6 zeroArg).toList = [0x40#8, 0x00#8, 0x00#8, 0x00#8, 0x00#8, 0x95#8] := by decide +kernel
  have h8 : (frame 8#6 checkArg).toList = [0x48#8, 0x00#8, 0x00#8, 0x01#8, 0xAA#8, 0x87#8] := by decide +kernel
  have h55 : (frame 55#6 zeroArg).toList = [0x77#8, 0x00#8, 0x00#8, 0x00#8, 0x00#8, 0x65#8] := by decide +kernel
  have h41 : (frame 41#6 hcsArg).toList = [0x69#8, 0x40#8, 0x00#8, 0x00#8, 0x00#8, 0x77#8] := by decide +kernel
  have h58 : (frame 58#6 zeroArg).toList = [0x7A#8, 0x00#8, 0x00#8, 0x00#8, 0x00#8, 0xFD#8] := by decide +kernel
  rw [openingFrames, attemptFrames, h0, h8, h55, h41, h58, handshakeFrames]

/-- What the ending `e` says of STATUS and RESP: a response of five bytes, or the last byte taken. -/
def LastExchange (s : State) (n : Nat) (e : InitEnding) (u : State) : Prop :=
  (endsOnFiveBytes e = true → u.status = s.rxAt (e.taken - 5) ∧
    u.resp = Vector.ofFn (fun i : Fin 5 => s.rxAt (e.taken - 5 + i.val))) ∧
  (endsOnFiveBytes e = false → n ≠ 0 → u.status = s.rxAt (e.taken - 1))

/-- Where an INIT that ends as `e` makes its ending. -/
structure Closes (s : State) (n : Nat) (o : Div) (e : InitEnding) (u : State) : Prop where
  tracks : Tracks s n o e.taken (handshakeFrames e) u
  transactions : (handshakeFrames e).length = e.transactions
  attCnt : u.attCnt = e.attempts.elim s.attCnt (s.cfg.negAttempts - ·)
  last : LastExchange s n e u

/-- An INIT that ends as `e` ends with its class (R180). -/
def InitEnds (s : State) (n : Nat) (o : Div) (e : InitEnding) (t : State) : Prop :=
  ∃ u, t = finish e.result u ∧ Closes s n o e u

section Endings

variable {s u v : State} {n p : Nat} {o : Div} {fs : List (List Byte)}

theorem Closes.of_frames {e : InitEnding} (htracks : Tracks s n o e.taken fs u) (hframes : handshakeFrames e = fs)
    (hlength : fs.length = e.transactions) (hatt : u.attCnt = e.attempts.elim s.attCnt (s.cfg.negAttempts - ·))
    (hlast : LastExchange s n e u) : Closes s n o e u := by
  subst hframes
  exact ⟨htracks, hlength, hatt, hlast⟩

/-- The last response is the five bytes from `q` on. -/
theorem lastExchange_of_five {e : InitEnding} {q : Nat} (hstatus : u.status = s.rxAt q)
    (hresp : u.resp = Vector.ofFn (fun i : Fin 5 => if i.val < 5 then s.rxAt (q + i.val) else v.resp[i]))
    (hq : e.taken = q + 5) (hfive : endsOnFiveBytes e = true) : LastExchange s n e u := by
  refine ⟨fun _ => ?_, fun hno => absurd (hno.symm.trans hfive) Bool.false_ne_true⟩
  rw [hq, Nat.add_sub_cancel, hstatus, hresp]
  exact ⟨rfl, congrArg Vector.ofFn (funext fun i => if_pos i.isLt)⟩

/-- The last exchange is not one of five bytes. -/
theorem lastExchange_of_status {e : InitEnding} (hfive : endsOnFiveBytes e = false)
    (h : n ≠ 0 → u.status = s.rxAt (e.taken - 1)) : LastExchange s n e u :=
  ⟨fun hyes => absurd (hfive.symm.trans hyes) Bool.false_ne_true, fun _ => h⟩

theorem exchangeFailed_of_timeout (h : v.result = .timeout) : exchangeFailed v = some .timeout := by
  rw [exchangeFailed, h]; rfl

theorem exchangeFailed_of_success (h : v.result = .success) : exchangeFailed v = none := by rw [exchangeFailed, h]; rfl

/-- Step 4 ends an INIT with the class of its test, SUCCESS where none fails (R178, R181). -/
theorem exists_initFinish_eq_finish (u : State) : ∃ w, initFinish u = finish ((capacityTest (callCapacity u)).getD .success) w ∧
    (w = callCapacity u ∨ w = configure (callCapacity u).ctxDiv (callCapacity u)) := by
  rw [initFinish]
  cases htest : capacityTest (callCapacity u) with
  | some r => exact ⟨_, rfl, .inl rfl⟩
  | none => exact ⟨_, rfl, .inr rfl⟩

theorem Closes.configure {e : InitEnding} (h : Closes s n o e u) (d : Div) : Closes s n o e (configure d u) :=
  ⟨h.tracks.configure d, h.transactions, h.attCnt, h.last⟩

/-- A bit of the mask is set exactly when the masked byte is not 0. -/
theorem anySet_eq (b mask : Byte) : anySet b mask = !decide (b &&& mask = 0#8) := by simp [anySet]

theorem capacityTest_of_answered {q : Nat} (h : Answered s q 5 u v) : (capacityTest v).getD .success =
    if s.rxAt q &&& 0xFE#8 ≠ 0#8 then .badResponse
    else if s.rxAt (q + 1) &&& 0x40#8 = 0#8 then .notSupported
    else if s.rxAt (q + 1) &&& 0x80#8 = 0#8 then .badResponse
    else .success := by
  have h0 : v.resp[0] = s.rxAt q := by simp [h.resp]
  have h1 : v.resp[1] = s.rxAt (q + 1) := by simp [h.resp]
  rw [capacityTest, exchangeFailed_of_success h.result, h0, h1]
  simp only [anySet_eq, r1Errors, ocrCcs, ocrPwrup, Bool.not_not, Bool.not_eq_true', decide_eq_false_iff_not,
    decide_eq_true_eq, ne_eq]
  split_ifs <;> rfl

/-- Step 4 ends in one of its two ways; all but the class is that of its exchange. -/
theorem initEnds_initFinish_of_closes {e : InitEnding} (hresult : (capacityTest (callCapacity u)).getD .success = e.result)
    (h : Closes s n o e (callCapacity u)) : InitEnds s n o e (initFinish u) := by
  obtain ⟨w, heq, hw⟩ := exists_initFinish_eq_finish u
  refine ⟨w, hresult ▸ heq, ?_⟩
  rcases hw with rfl | rfl
  · exact h
  · exact h.configure _

/-- Step 4 (R177, R178, R181). -/
theorem initEnds_initFinish {a : Nat} (ha : a ≠ 0) (h : Tracks s n o p (openingFrames a) u)
    (hatt : u.attCnt = s.cfg.negAttempts - a) : InitEnds s n o (capacityEnding s n a p) (initFinish u) := by
  have hframes (r : Result) (q : Nat) : handshakeFrames ⟨r, q, 2 * a + 3, some a⟩ =
      openingFrames a ++ [(frame 58#6 zeroArg).toList] := by
    rw [handshakeFrames_eq]
    exact List.take_of_length_le (by simp [openingFrames_length])
  rw [capacityEnding]
  cases hk : pollEnd s n p with
  | none =>
    obtain ⟨htracks, hanswer⟩ := tracks_xcmdCall_of_none .iS4 58#6 zeroArg h (l := 5) (by decide) le_rfl hk
    refine initEnds_initFinish_of_closes ?_ (.of_frames htracks (hframes _ _) (by simp [openingFrames_length])
      (hanswer.attCnt.trans hatt) (lastExchange_of_status ?_ hanswer.status))
    · rw [callCapacity, capacityTest, exchangeFailed_of_timeout hanswer.result]; rfl
    · simp [endsOnFiveBytes, ha]
  | some k =>
    obtain ⟨htracks, hanswer⟩ := tracks_xcmdCall_of_some .iS4 58#6 zeroArg h (l := 5) (by decide) le_rfl hk
    refine initEnds_initFinish_of_closes (capacityTest_of_answered hanswer) (.of_frames htracks (hframes _ _)
      (by simp [openingFrames_length]) (hanswer.attCnt.trans hatt) (lastExchange_of_five hanswer.status hanswer.resp rfl ?_))
    dsimp only [endsOnFiveBytes]
    split_ifs <;> simp

/-- Step 3 and on, after the response of step 2 (R174 to R178). -/
theorem initEnds_initNegotiate {q : Nat} (h : Tracks s n o (q + 5) (openingFrames 0) u) (hanswer : Answered s q 5 v u) :
    InitEnds s n o
      (let r := negotiation s n s.cfg.negAttempts (q + 5)
       if r.1 then capacityEnding s n r.2.1 r.2.2 else ⟨.timeout, r.2.2, 2 * r.2.1 + 2, some r.2.1⟩)
      (initNegotiate u) := by
  have hload : Tracks s n o (q + 5) (openingFrames 0) (loadAttempts u) := h.setAttCnt u.cfg.negAttempts
  obtain ⟨hready, htracks, hatt, hstatus⟩ := tracks_negotiate s.cfg.negAttempts hload
  rw [show (loadAttempts u).attCnt = u.cfg.negAttempts from rfl, h.cfg] at hatt
  obtain ⟨-, hsome, hall, -⟩ := negotiation_bounds s n s.cfg.negAttempts (q + 5)
  rw [initNegotiate, h.cfg]
  dsimp only
  rw [hready]
  cases hr : (negotiation s n s.cfg.negAttempts (q + 5)).1 with
  | true => exact initEnds_initFinish (hsome hr) htracks hatt
  | false =>
    refine ⟨_, rfl, .of_frames htracks ?frames (openingFrames_length _) hatt ?last⟩
    case frames =>
      rw [handshakeFrames_eq]
      exact List.take_left' (openingFrames_length _)
    case last =>
      rw [hall hr, if_neg Bool.false_ne_true]
      by_cases hm : s.cfg.negAttempts = 0
      case neg => exact lastExchange_of_status (by simp [endsOnFiveBytes, hm]) (hstatus hm)
      case pos =>
        rw [hm]
        exact lastExchange_of_five hanswer.status hanswer.resp rfl rfl

/-- The idle-state bit is bit 0 (R85). -/
theorem anySet_one (b : Byte) : anySet b 0x01#8 = b.getLsbD 0 := by
  revert b
  decide

theorem interfaceTest_of_answered {q : Nat} (h : Answered s q 5 u v) : interfaceTest v =
    if (s.rxAt q).getLsbD 0 = true ∧ (s.rxAt (q + 3)).getLsbD 0 = true ∧ s.rxAt (q + 4) = 0xAA#8 then none
    else some .notSupported := by
  have h0 : v.resp[0] = s.rxAt q := by simp [h.resp]
  have h3 : v.resp[3] = s.rxAt (q + 3) := by simp [h.resp]
  have h4 : v.resp[4] = s.rxAt (q + 4) := by simp [h.resp]
  rw [interfaceTest, exchangeFailed_of_success h.result, h0, h3, h4]
  rw [r1Idle, r7VoltOk, checkPattern, anySet_one, anySet_one]
  simp [and_assoc]

/-- Step 2 and on (R173). -/
theorem initEnds_initInterface (h : Tracks s n o p [(frame 0#6 zeroArg).toList] u) (hatt : u.attCnt = s.attCnt) :
    InitEnds s n o (interfaceEnding s n s.cfg.negAttempts p) (initInterface u) := by
  have hframes (r : Result) (q : Nat) : handshakeFrames ⟨r, q, 2, none⟩ = openingFrames 0 := by
    rw [handshakeFrames_eq]; rfl
  rw [interfaceEnding, initInterface]
  cases hk : pollEnd s n p with
  | none =>
    obtain ⟨htracks, hanswer⟩ := tracks_xcmdCall_of_none .iS2 8#6 checkArg h (l := 5) (by decide) le_rfl hk
    have htest : interfaceTest (callInterface u) = some .timeout := by
      rw [callInterface, interfaceTest, exchangeFailed_of_timeout hanswer.result]
    simp only [htest]
    exact ⟨_, rfl, .of_frames htracks (hframes _ _) rfl (hanswer.attCnt.trans hatt)
      (lastExchange_of_status rfl hanswer.status)⟩
  | some k =>
    obtain ⟨htracks, hanswer⟩ := tracks_xcmdCall_of_some .iS2 8#6 checkArg h (l := 5) (by decide) le_rfl hk
    have htest := interfaceTest_of_answered hanswer
    dsimp only
    split
    case isTrue haccepted =>
      rw [if_pos haccepted] at htest
      simp only [callInterface, htest]
      exact initEnds_initNegotiate htracks hanswer
    case isFalse hrejected =>
      rw [if_neg hrejected] at htest
      simp only [callInterface, htest]
      exact ⟨_, rfl, .of_frames htracks (hframes _ _) rfl (hanswer.attCnt.trans hatt)
        (lastExchange_of_five hanswer.status hanswer.resp rfl rfl)⟩

/-- The whole handshake (R180). -/
theorem initEnds_initReset (h : Tracks s n o 0 [] u) (hatt : u.attCnt = s.attCnt) :
    InitEnds s n o (initEnding s n s.cfg.negAttempts) (initReset u) := by
  have hframes (r : Result) (q : Nat) : handshakeFrames ⟨r, q, 1, none⟩ = [(frame 0#6 zeroArg).toList] := by
    rw [handshakeFrames_eq]; rfl
  rw [initEnding, initReset]
  cases hk : pollEnd s n 0 with
  | none =>
    obtain ⟨htracks, hanswer⟩ := tracks_xcmdCall_of_none .iS1 0#6 zeroArg h le_rfl (by decide) hk
    have htest : resetTest (callReset u) = some .timeout := by
      rw [callReset, resetTest, exchangeFailed_of_timeout hanswer.result]
    rw [Nat.zero_add] at htracks
    simp only [htest]
    refine ⟨_, rfl, .of_frames htracks (hframes _ _) rfl (hanswer.attCnt.trans hatt) (lastExchange_of_status rfl ?_)⟩
    have hstatus := hanswer.status
    rw [Nat.zero_add] at hstatus
    exact hstatus
  | some k =>
    obtain ⟨htracks, hanswer⟩ := tracks_xcmdCall_of_some .iS1 0#6 zeroArg h le_rfl (by decide) hk
    rw [Nat.zero_add] at htracks hanswer
    have htest : resetTest (callReset u) = if s.rxAt k = 0x01#8 then none else some .timeout := by
      rw [callReset, resetTest, exchangeFailed_of_success hanswer.result, hanswer.status]
      rfl
    dsimp only
    split
    case isTrue hidle =>
      rw [if_pos hidle] at htest
      simp only [htest]
      exact initEnds_initInterface htracks (hanswer.attCnt.trans hatt)
    case isFalse hother =>
      rw [if_neg hother] at htest
      simp only [htest]
      exact ⟨_, rfl, .of_frames htracks (hframes _ _) rfl (hanswer.attCnt.trans hatt)
        (lastExchange_of_status rfl fun _ => hanswer.status)⟩

end Endings

/-! ### INIT as a whole -/

theorem exec_init (b o : Div) (n : Nat) {s : State} (h : Free s) : exec (.init b o n) s = .next (initOperation b o n s) := by
  change execInit b o n s = _
  rw [execInit, (admitted_eq_none_iff s).mpr h]

/-- The configuration and the optional preamble take no byte and make no transaction (R171). -/
theorem tracks_initBegin (b o : Div) (n : Nat) {s : State} (h : s.busHeld = false) :
    Tracks s n o 0 [] (initBegin b o n s) := by
  refine ⟨rfl, rfl, ⟨rfl, rfl, rfl⟩, rfl, h, ?_, ?_, ?_, fun hs => ⟨tracePhase_cons_of hs.1 rfl, hs.2⟩⟩
  · rw [initBegin_tx, acquires_append]; rfl
  · rw [initBegin_tx, releases_append]; rfl
  · rw [initBegin_tx, framesSent_append]; rfl

theorem preamble_tx (s : State) : (preamble s).tx = s.tx ++ [.idle s.cfg.preambleClocks] := emit_tx ..

theorem Tracks.preamble {s u : State} {n p : Nat} {o : Div} {fs : List (List Byte)} (h : Tracks s n o p fs u) :
    Tracks s n o p fs (preamble u) := by
  refine ⟨h.rx, h.rxPos, h.context, h.cfg, h.busHeld, ?_, ?_, ?_,
    fun hs => ⟨tracePhase_cons_of (h.disciplined hs).1 rfl, (h.disciplined hs).2⟩⟩
  · rw [preamble_tx, acquires_append, h.acquires]; rfl
  · rw [preamble_tx, releases_append, h.releases]; rfl
  · rw [preamble_tx, framesSent_append, h.frames]; exact List.append_nil _

/-- Whatever RX answers, INIT ends as the table over its bytes says (R180). -/
theorem initEnds_initOperation (b o : Div) (n : Nat) {s : State} (h : s.busHeld = false) :
    InitEnds s n o (initEnding s n s.cfg.negAttempts) (initOperation b o n s) := by
  have hbegin := tracks_initBegin b o n h
  rw [initOperation]
  split
  case isTrue => exact initEnds_initReset hbegin rfl
  case isFalse => exact initEnds_initReset hbegin.preamble rfl

theorem finish_attCnt (r : Result) (s : State) : (finish r s).attCnt = s.attCnt := by rw [finish_eq]

/-- Settles O32: the ending of the table, with the registers and the events of the exchanges before it. -/
theorem initEndsAsTheTable : Obligations.InitEndsAsTheTable := by
  intro s b o n hfree
  obtain ⟨u, heq, hcloses⟩ := initEnds_initOperation b o n hfree.2
  have htracks := hcloses.tracks.finish (initEnding s n s.cfg.negAttempts).result
  rw [← heq] at htracks
  obtain ⟨htb, hdiv, hctx⟩ := htracks.context
  have hacquires := htracks.acquires
  have hreleases := htracks.releases
  rw [hcloses.transactions] at hacquires hreleases
  refine ⟨_, exec_init b o n hfree, ?_, htracks.rxPos, htracks.rx, hacquires, hreleases, htracks.frames, fun m hm => ?_,
    hctx, htb, hdiv, htracks.busHeld, ?_⟩ <;> rw [heq]
  · exact finish_result ..
  · rw [finish_attCnt, hcloses.attCnt, hm]; rfl
  · exact finish_seq ..

/-- Settles O60: the last exchange before the ending, which leaves STATUS and RESP alone. -/
theorem initLeavesTheLastExchange : Obligations.InitLeavesTheLastExchange := by
  intro s t b o n hexec
  obtain ⟨hfree, rfl⟩ := exec_init_eq_next hexec
  obtain ⟨u, heq, hcloses⟩ := initEnds_initOperation b o n hfree.2
  rw [heq, finish_status, finish_resp]
  exact hcloses.last

/-! ### The bounds -/

/-- XR1 makes some number of attempts (R153). -/
theorem exists_xr1_eq_polled_le (c : BitVec 6) (a : BitVec 32) (s : State) :
    ∃ (k : Nat) (st : Byte) (d : Nat), k ≤ s.ctxTb ∧ xr1 c a s = polled c a k st d s := by
  rcases exists_firstValid_or_allSkip s 0 s.ctxTb with ⟨k, hk, hvalid⟩ | hskip
  · exact ⟨k + 1, s.rxAt k, s.draw, hk, xr1_eq_polled c a hk hvalid⟩
  · obtain ⟨st, d, heq, -⟩ := exists_xr1_eq_polled c a hskip
    exact ⟨s.ctxTb, st, d, le_rfl, heq⟩

/-- An exchange ends in one of three ways, each from what XR1 left (R155). -/
theorem xcmdBody_cases (c : BitVec 6) (a : BitVec 32) (n : Nat) (s : State) :
    xcmdBody c a n s = endExchange .timeout (drawResp (xr1 c a s)) ∨
      xcmdBody c a n s = endExchange .success (storeStatus (xr1 c a s)) ∨
      xcmdBody c a n s = endExchange .success (takePayload n (xr1 c a s)) := by
  rw [xcmdBody]
  split_ifs
  · exact .inl rfl
  · exact .inr (.inl rfl)
  · exact .inr (.inr rfl)

/-- The registers no exchange writes. -/
structure ExchangeKeeps (s t : State) : Prop where
  data : t.data = s.data
  token : t.token = s.token
  op : t.op = s.op
  host : t.host = s.host
  msgIn : t.msgIn = s.msgIn
  cfg : t.cfg = s.cfg
  grain : t.grain = s.grain
  attCnt : t.attCnt = s.attCnt
  context : t.ctxTb = s.ctxTb ∧ t.ctxDiv = s.ctxDiv ∧ t.ctxValid = s.ctxValid

theorem exchangeKeeps_xcmdCall (ret : Seq) (c : BitVec 6) (a : BitVec 32) (n : Nat) (s : State) :
    ExchangeKeeps s (xcmdCall ret c a n s) := by
  obtain ⟨k, st, d, -, heq⟩ := exists_xr1_eq_polled_le c a (loadExchange ret c a n s)
  rw [xcmdCall]
  rcases xcmdBody_cases c a n (loadExchange ret c a n s) with h | h | h <;> rw [h, heq, endExchange_eq] <;>
    exact ⟨rfl, rfl, rfl, rfl, rfl, rfl, rfl, rfl, rfl, rfl, rfl⟩

theorem xcmdCall_counts (ret : Seq) (c : BitVec 6) (a : BitVec 32) (n : Nat) (s : State) :
    acquires (xcmdCall ret c a n s).tx = acquires s.tx + 1 ∧ releases (xcmdCall ret c a n s).tx = releases s.tx + 1 := by
  obtain ⟨⟨rs, hrs, htx⟩, -, -⟩ := xcmdCall_spec ret c a n s
  obtain ⟨hacquires, hreleases, -⟩ := transaction_counts c a hrs
  rw [htx, acquires_append, releases_append, hacquires, hreleases]
  exact ⟨rfl, rfl⟩

/-- One attempt spends a unit and makes two transactions (R174). -/
theorem attempt_counts (s : State) : (attempt s).attCnt = s.attCnt - 1 ∧ acquires (attempt s).tx = acquires s.tx + 2 ∧
    releases (attempt s).tx = releases s.tx + 2 := by
  have hspent : ({ s with attCnt := s.attCnt - 1 } : State).tx = s.tx := rfl
  rw [attempt, callNegotiate, callPrefix, (exchangeKeeps_xcmdCall ..).attCnt, (exchangeKeeps_xcmdCall ..).attCnt,
    (xcmdCall_counts ..).1, (xcmdCall_counts ..).1, (xcmdCall_counts ..).2, (xcmdCall_counts ..).2, hspent]
  exact ⟨rfl, rfl, rfl⟩

theorem negotiate_counts (n : Nat) (s : State) : ∃ k : Nat, k ≤ n ∧ (negotiate n s).2.attCnt = s.attCnt - k ∧
    acquires (negotiate n s).2.tx = acquires s.tx + 2 * k ∧ releases (negotiate n s).2.tx = releases s.tx + 2 * k ∧
    (n ≠ 0 → k ≠ 0) ∧ ((negotiate n s).1 = false → k = n) := by
  induction n generalizing s with
  | zero => exact ⟨0, le_rfl, rfl, rfl, rfl, fun h => absurd rfl h, fun _ => rfl⟩
  | succ n ih =>
    obtain ⟨hatt, hacquires, hreleases⟩ := attempt_counts s
    rw [negotiate]
    split
    case isTrue =>
      dsimp only
      exact ⟨1, by omega, hatt, hacquires, hreleases, by simp, by simp⟩
    case isFalse =>
      obtain ⟨k, hk, katt, kacquires, kreleases, -, kall⟩ := ih (attempt s)
      exact ⟨k + 1, by omega, by omega, by omega, by omega, by simp, fun hno => congrArg Nat.succ (kall hno)⟩

theorem pollEnd_lt {s : State} {n p k : Nat} (h : pollEnd s n p = some k) : k < n :=
  ((pollEnd_eq_some_iff s n p k).mp h).1

/-- Step 4 takes at most the timeout bound and four more bytes (R177). -/
theorem capacityEnding_bounds (s : State) (n a p : Nat) :
    (capacityEnding s n a p).transactions = 2 * a + 3 ∧ (capacityEnding s n a p).taken ≤ p + n + 4 := by
  rw [capacityEnding]
  cases hk : pollEnd s n p with
  | none => exact ⟨rfl, Nat.le_add_right _ 4⟩
  | some k =>
    have hlt := pollEnd_lt hk
    exact ⟨rfl, by dsimp only; omega⟩

/-- Steps 2 to 4 (R173 to R178). -/
theorem interfaceEnding_bounds (s : State) (n m p : Nat) : (interfaceEnding s n m p).transactions ≤ 2 * m + 3 ∧
    (interfaceEnding s n m p).taken ≤ p + m * (2 * n) + 2 * n + 8 := by
  rw [interfaceEnding]
  cases hk : pollEnd s n p with
  | none => exact ⟨by dsimp only; omega, by dsimp only; omega⟩
  | some k =>
    have hlt := pollEnd_lt hk
    obtain ⟨hle, -, -, hbytes⟩ := negotiation_bounds s n m (p + k + 5)
    have hmul := Nat.mul_le_mul_right (2 * n) hle
    obtain ⟨htransactions, htaken⟩ := capacityEnding_bounds s n (negotiation s n m (p + k + 5)).2.1
      (negotiation s n m (p + k + 5)).2.2
    dsimp only
    split_ifs
    · exact ⟨by omega, by omega⟩
    · exact ⟨by dsimp only; omega, by dsimp only; omega⟩
    · exact ⟨by dsimp only; omega, by dsimp only; omega⟩

/-- The bounds of the table's endings (R176, R180). -/
theorem initEnding_bounds (s : State) (n m : Nat) :
    (initEnding s n m).transactions ≤ 2 * m + 3 ∧ (initEnding s n m).taken ≤ (2 * m + 3) * n + 8 := by
  have hsum : (2 * m + 3) * n = n + m * (2 * n) + 2 * n := by ring
  rw [hsum, initEnding]
  cases hk : pollEnd s n 0 with
  | none => exact ⟨by dsimp only; omega, by dsimp only; omega⟩
  | some k =>
    have hlt := pollEnd_lt hk
    obtain ⟨htransactions, htaken⟩ := interfaceEnding_bounds s n m (k + 1)
    dsimp only
    split
    case isTrue => exact ⟨htransactions, by omega⟩
    case isFalse => exact ⟨by dsimp only; omega, by dsimp only; omega⟩

/-- Settles O33: the negotiation by induction over its attempts, the whole by the table of endings. -/
theorem initIsBounded : Obligations.InitIsBounded := by
  refine ⟨negotiate_counts, fun s t b o n hexec => ?whole⟩
  obtain ⟨hfree, rfl⟩ := exec_init_eq_next hexec
  obtain ⟨u, heq, hcloses⟩ := initEnds_initOperation b o n hfree.2
  have htracks := hcloses.tracks.finish (initEnding s n s.cfg.negAttempts).result
  rw [← heq] at htracks
  obtain ⟨htransactions, htaken⟩ := initEnding_bounds s n s.cfg.negAttempts
  rw [htracks.acquires, hcloses.transactions, htracks.rxPos]
  exact ⟨Nat.add_le_add_left htransactions _, by omega⟩

/-! ### What INIT keeps, and how it begins -/

/-- The registers INIT does not write (R170). -/
structure InitKeeps (s t : State) : Prop where
  data : t.data = s.data
  token : t.token = s.token
  op : t.op = s.op
  host : t.host = s.host
  msgIn : t.msgIn = s.msgIn
  cfg : t.cfg = s.cfg
  grain : t.grain = s.grain

theorem InitKeeps.trans {s t u : State} (hst : InitKeeps s t) (htu : InitKeeps t u) : InitKeeps s u :=
  ⟨htu.data.trans hst.data, htu.token.trans hst.token, htu.op.trans hst.op, htu.host.trans hst.host,
    htu.msgIn.trans hst.msgIn, htu.cfg.trans hst.cfg, htu.grain.trans hst.grain⟩

theorem initKeeps_xcmdCall (ret : Seq) (c : BitVec 6) (a : BitVec 32) (n : Nat) (s : State) :
    InitKeeps s (xcmdCall ret c a n s) := by
  obtain ⟨hdata, htoken, hop, hhost, hmsg, hcfg, hgrain, -, -⟩ := exchangeKeeps_xcmdCall ret c a n s
  exact ⟨hdata, htoken, hop, hhost, hmsg, hcfg, hgrain⟩

theorem initKeeps_finish (r : Result) (s : State) : InitKeeps s (finish r s) := by
  rw [finish_eq]
  exact ⟨rfl, rfl, rfl, rfl, rfl, rfl, rfl⟩

theorem keptByInit_initKeeps (s : State) : KeptByInit (InitKeeps s) where
  xcmdCall ret c a n h := h.trans (initKeeps_xcmdCall ret c a n _)
  setAttCnt _ h := h.trans ⟨rfl, rfl, rfl, rfl, rfl, rfl, rfl⟩
  configure _ h := h.trans ⟨rfl, rfl, rfl, rfl, rfl, rfl, rfl⟩
  finish r h := h.trans (initKeeps_finish r _)

/-- What holds where INIT's handshake starts and is kept by its steps holds where it ends. -/
theorem KeptByInit.initOperation {P : State → Prop} (hP : KeptByInit P) {b o : Div} {n : Nat} {s : State}
    (hbegin : P (initBegin b o n s)) (hpreamble : P (preamble (initBegin b o n s))) : P (initOperation b o n s) := by
  rw [Machine.initOperation]
  split
  case isTrue => exact hP.initReset hbegin
  case isFalse => exact hP.initReset hpreamble

theorem initKeeps_initOperation (b o : Div) (n : Nat) (s : State) : InitKeeps s (initOperation b o n s) :=
  (keptByInit_initKeeps s).initOperation ⟨rfl, rfl, rfl, rfl, rfl, rfl, rfl⟩ ⟨rfl, rfl, rfl, rfl, rfl, rfl, rfl⟩

/-- Settles O35: no step of INIT writes these registers. -/
theorem initFrame : Obligations.InitFrame := by
  intro s t b o n hexec
  obtain ⟨-, rfl⟩ := exec_init_eq_next hexec
  obtain ⟨hdata, htoken, hop, hhost, hmsg, hcfg, hgrain⟩ := initKeeps_initOperation b o n s
  exact ⟨hdata, htoken, hop, hhost, hmsg, hcfg, hgrain⟩

/-- TX begins with `es`. -/
def TxBegins (es : List Event) (s : State) : Prop := ∃ fs, s.tx = es ++ fs

theorem TxBegins.append {es fs : List Event} {s t : State} (h : TxBegins es s) (htx : t.tx = s.tx ++ fs) : TxBegins es t := by
  obtain ⟨gs, hs⟩ := h
  exact ⟨gs ++ fs, by rw [htx, hs, List.append_assoc]⟩

/-- TX only grows in what INIT is made of. -/
theorem keptByInit_txBegins (es : List Event) : KeptByInit (TxBegins es) where
  xcmdCall ret c a n h := by
    obtain ⟨⟨rs, -, htx⟩, -, -⟩ := xcmdCall_spec ret c a n _
    exact h.append htx
  setAttCnt _ h := h
  configure d h := h.append (configure_tx d _)
  finish {u} r h := by
    cases hheld : u.busHeld with
    | true => exact h.append (finish_tx_of_busHeld r hheld)
    | false => exact h.append (fs := []) (by rw [finish_tx_of_busFree r hheld, List.append_nil])

/-- The handshake begins with an acquisition (R172). -/
theorem txBegins_initReset (s : State) : TxBegins (s.tx ++ [.acquire]) (initReset s) := by
  have hkept := keptByInit_txBegins (s.tx ++ [.acquire])
  have hcall : TxBegins (s.tx ++ [.acquire]) (callReset s) := by
    obtain ⟨⟨rs, -, htx⟩, -, -⟩ := xcmdCall_spec .iS1 0#6 zeroArg 1 s
    exact ⟨[.idle 1, .send (frame 0#6 zeroArg).toList] ++ rs ++ [.release], by simp [callReset, htx, transaction]⟩
  rw [initReset]
  split
  case h_1 r _ => exact hkept.finish r hcall
  case h_2 => exact hkept.initInterface hcall

/-- Settles O36: the configuration, the idle clocks where there are any, the acquisition. -/
theorem initPreamble : Obligations.InitPreamble := by
  intro s t b o n hexec
  obtain ⟨-, rfl⟩ := exec_init_eq_next hexec
  have hclocks : (initBegin b o n s).cfg.preambleClocks = s.cfg.preambleClocks := rfl
  rw [initOperation, hclocks]
  refine ⟨fun hnone => ?none, fun hsome => ?some⟩
  case none =>
    obtain ⟨es, htx⟩ := txBegins_initReset (initBegin b o n s)
    exact ⟨es, by rw [if_pos hnone, htx, initBegin_tx]; simp⟩
  case some =>
    obtain ⟨es, htx⟩ := txBegins_initReset (preamble (initBegin b o n s))
    exact ⟨es, by rw [if_neg hsome, htx, preamble_tx, hclocks, initBegin_tx]; simp⟩

end Sys2Proof.Machine

/-! PROOFS. What every step and every instruction keeps: the invariant of the bus (20_memory.md R54, R57; 70_reset_and_hazards.md
R235), case by case over what a step or an instruction can do. -/

namespace Sys2Proof.Machine

open Spec

/-! ### The invariant at the endings -/

/-- The invariant, part by part. -/
theorem inv_of {s : State} (hphase : tracePhase s.txRev = some (seqPhase s.seq))
    (hheld : s.busHeld = decide (seqPhase s.seq ≠ .free)) (hlen : legalRlen s.rlen = true) (hresult : s.result ≠ .checksumError)
    (hctx : s.seq ≠ .idle → s.seq ≠ .cRun → s.ctxValid = true) : Inv s := ⟨hphase, hheld, hlen, hresult, hctx⟩

/-- On an idle block the discipline is kept outside any transaction. -/
theorem disciplined_of_inv {s : State} (hinv : Inv s) (hfree : seqPhase s.seq = .free) : Disciplined s := by
  obtain ⟨hphase, -, hlen, -⟩ := hinv
  exact ⟨by rw [hphase, hfree], hlen⟩

theorem seqPhase_of_busHeld {s : State} (hinv : Inv s) (hheld : s.busHeld = false) : seqPhase s.seq = .free := by
  obtain ⟨-, hbus, -⟩ := hinv
  rw [hheld] at hbus
  simpa using hbus.symm

/-- A block that ends an operation outside any transaction meets the invariant. -/
theorem inv_of_ended {s : State} (hs : Disciplined s) (hseq : s.seq = .idle) (hheld : s.busHeld = false)
    (hresult : s.result ≠ .checksumError) : Inv s := by
  obtain ⟨hphase, hlen⟩ := hs
  refine inv_of ?_ ?_ hlen hresult fun hne => absurd hseq hne
  · rw [hseq]; exact hphase
  · rw [hseq, hheld]; rfl

/-- INIT's steps stand outside any transaction. -/
theorem seqPhase_of_handshakeReturn {q : Seq} (h : handshakeReturn q = true) : seqPhase q = .free := by
  cases q with
  | iS1 | iS2 | iS3A | iS3B | iS4 => rfl
  | _ => cases h

/-- Where a class is due the block stands outside any transaction, or has sent its frame. -/
theorem seqPhase_of_dueClass {s : State} {r : Result} (h : dueClass s = some r) :
    seqPhase s.seq = .free ∨ seqPhase s.seq = .sent := by
  cases hseq : s.seq with
  | xAcq => simp [dueClass, hseq] at h
  | xPulse => simp [dueClass, hseq] at h
  | idle | cRun | iCfg | iS1 | iS2 | iS3A | iS3B | iS4 | iS5 => exact .inl rfl
  | xSend | xPoll | xPayload | xRel | bCheck | bToken | bData | bRel => exact .inr rfl

/-- What `conclude` leaves, register by register: RESP and the draws, ATT_CNT and RET are all it may write besides the
ending's own registers (R209). -/
theorem exists_conclude_eq (r : Result) (s : State) :
    ∃ (resp : Vector Byte 5) (d att : Nat) (ret : Seq), conclude r s = { s with
        busHeld := false, result := r, resp := resp, draw := d, attCnt := att, ret := ret,
        seq := if s.busHeld && handshakeReturn s.ret then s.ret else .idle,
        txRev := if s.busHeld then .release :: s.txRev else s.txRev } ∧
      (att = s.attCnt ∨ att = s.cfg.negAttempts) := by
  obtain ⟨resp, d, hdraw, -⟩ := exists_drawIfOpen_eq r s
  rw [conclude_eq, hdraw]
  split
  case isTrue =>
    obtain ⟨att, henter, -, hatt⟩ := exists_enterNegotiation_eq (endExchange r { s with resp := resp, draw := d })
    rw [endExchange_eq] at henter hatt
    exact ⟨resp, d, att, s.ret, by rw [endExchange_eq, henter], hatt⟩
  case isFalse => exact ⟨resp, d, s.attCnt, .idle, by rw [finish_eq], .inl rfl⟩

/-- After the release, if one is due, the block stands outside any transaction. -/
theorem tracePhase_of_ended {s : State} (htrace : tracePhase s.txRev = some (seqPhase s.seq))
    (hbus : s.busHeld = decide (seqPhase s.seq ≠ .free)) (hphase : seqPhase s.seq = .free ∨ seqPhase s.seq = .sent) :
    tracePhase (if s.busHeld then .release :: s.txRev else s.txRev) = some .free := by
  rw [hbus]
  rcases hphase with hphase | hphase
  · rw [hphase] at htrace ⊢; exact htrace
  · rw [hphase] at htrace ⊢; exact tracePhase_cons_of htrace rfl

/-- Every ending with a class some rule writes keeps the invariant. -/
theorem inv_conclude {r : Result} {s : State} (hinv : Inv s) (hr : r ≠ .checksumError)
    (hphase : seqPhase s.seq = .free ∨ seqPhase s.seq = .sent) : Inv (conclude r s) := by
  obtain ⟨htrace, hbus, hlen, -, hctx⟩ := hinv
  obtain ⟨resp, d, att, ret, heq, -⟩ := exists_conclude_eq r s
  rw [heq]
  by_cases hcall : (s.busHeld && handshakeReturn s.ret) = true
  case neg =>
    rw [if_neg hcall]
    exact inv_of (tracePhase_of_ended htrace hbus hphase) rfl hlen hr fun hne => absurd rfl hne
  case pos =>
    obtain ⟨hheld, hret⟩ := Bool.and_eq_true_iff.mp hcall
    have hfree := seqPhase_of_handshakeReturn hret
    rw [if_pos hcall]
    refine inv_of ?_ (by rw [hfree]; rfl) hlen hr fun _ _ => hctx ?_ ?_
    · rw [hfree]; exact tracePhase_of_ended htrace hbus hphase
    all_goals intro hseq; rw [hbus, hseq] at hheld; cases hheld

/-! ### The invariant, instruction by instruction -/

/-- One more event and a new state of SEQ, inside or outside the transaction as the event says. -/
theorem inv_of_event {s t : State} {e : Event} (hinv : Inv s) (htx : t.txRev = e :: s.txRev)
    (hafter : (seqPhase s.seq).after e = some (seqPhase t.seq)) (hheld : t.busHeld = decide (seqPhase t.seq ≠ .free))
    (hlen : legalRlen t.rlen = true) (hresult : t.result = s.result) (hctx : t.ctxValid = true) : Inv t := by
  obtain ⟨hphase, -, -, hold, -⟩ := hinv
  exact inv_of (htx ▸ tracePhase_cons_of hphase hafter) hheld hlen (hresult ▸ hold) fun _ _ => hctx

theorem ctxValid_of_inv {s : State} (hinv : Inv s) (hphase : seqPhase s.seq ≠ .free) : s.ctxValid = true := by
  obtain ⟨-, -, -, -, hctx⟩ := hinv
  refine hctx ?_ ?_ <;> intro hseq <;> exact hphase (by rw [hseq]; rfl)

/-- A reception inside a transaction keeps the invariant. -/
theorem inv_of_reception {s t : State} {e : Event} (hinv : Inv s) (hs : seqPhase s.seq = .sent) (ht : seqPhase t.seq = .sent)
    (he : isLegalReception e = true) (htx : t.txRev = e :: s.txRev) (hheld : t.busHeld = s.busHeld) (hlen : t.rlen = s.rlen)
    (hresult : t.result = s.result) (hctx : t.ctxValid = s.ctxValid) : Inv t := by
  have hvalid := ctxValid_of_inv hinv (by rw [hs]; decide)
  have hbus : s.busHeld = decide (seqPhase s.seq ≠ .free) := hinv.2.1
  refine inv_of_event hinv htx ?_ (by rw [hheld, hbus, hs, ht]) (hlen ▸ hinv.2.2.1) hresult (hctx ▸ hvalid)
  rw [hs, ht]
  cases e with
  | rx b => rfl
  | rxn bs => exact if_pos he
  | _ => cases he

theorem seqPhase_of_statusPolling {s : State} (h : statusPolling s = true) : seqPhase s.seq = .sent := by
  obtain ⟨-, hseq | ⟨hseq, -⟩⟩ := (statusPolling_iff s).mp h <;> rw [hseq] <;> rfl

theorem seqPhase_of_tokenPolling {s : State} (h : tokenPolling s = true) : seqPhase s.seq = .sent := by
  obtain ⟨-, ⟨hseq, -⟩ | ⟨hseq, -⟩⟩ := (tokenPolling_iff s).mp h <;> rw [hseq] <;> rfl

theorem seqPhase_of_responseDue {s : State} (h : responseDue s = true) : seqPhase s.seq = .sent := by
  rw [((responseDue_iff s).mp h).1]; rfl

theorem inv_statusByte {s : State} {b : Byte} (hinv : Inv s) (hdue : statusPolling s = true) : Inv (statusByte b s) :=
  inv_of_reception (e := .rx b) hinv (seqPhase_of_statusPolling hdue) rfl rfl rfl rfl rfl rfl rfl

/-- The block read's check stands inside its transaction as the poll did. -/
theorem inv_enterBlockCheck {s : State} (hinv : Inv s) (hs : seqPhase s.seq = .sent) : Inv (enterBlockCheck s) := by
  obtain ⟨hphase, hbus, hlen, hresult, -⟩ := id hinv
  have hvalid := ctxValid_of_inv hinv (by rw [hs]; decide)
  rw [enterBlockCheck_eq]
  exact inv_of (by rw [hphase, hs]; rfl) (by rw [hbus, hs]; rfl) hlen hresult fun _ _ => hvalid

theorem inv_tokenByte {s : State} {b : Byte} (hinv : Inv s) (hdue : tokenPolling s = true) : Inv (tokenByte b s) :=
  inv_of_reception (e := .rx b) hinv (seqPhase_of_tokenPolling hdue) rfl rfl rfl rfl rfl rfl rfl

theorem inv_storeResponse {s : State} {b : Byte} {bs : List Byte} (hinv : Inv s) (hdue : responseDue s = true)
    (hbs : legalReception bs.length = true) : Inv (storeResponse b bs s) :=
  inv_of_reception (e := .rxn bs) hinv (seqPhase_of_responseDue hdue) rfl hbs rfl rfl rfl rfl rfl

theorem inv_sendFrame {s : State} (c : BitVec 6) (a : BitVec 32) (hinv : Inv s) (hseq : s.seq = .xPulse) :
    Inv (sendFrame c a s) := by
  have hvalid := ctxValid_of_inv hinv (by rw [hseq]; decide)
  have hbus : s.busHeld = decide (seqPhase s.seq ≠ .free) := hinv.2.1
  obtain ⟨st, d, heq, -⟩ := exists_sendFrame_eq c a s
  rw [heq]
  refine inv_of_event hinv (e := .send (frame c a).toList) rfl ?_ ?_ hinv.2.2.1 rfl hvalid
  · rw [hseq]; exact if_pos (goodFrame_frame c a)
  · rw [hbus, hseq]; rfl

/-- Each row below the operations keeps the invariant. -/
theorem RowCase.inv {s t : State} (h : RowCase s t) (hinv : Inv s) : Inv t := by
  cases h with
  | frame hseq => exact inv_sendFrame _ _ hinv hseq
  | statusPoll hdue => exact inv_statusByte hinv hdue
  | readStatus hdue => exact inv_enterBlockCheck (inv_statusByte hinv hdue) rfl
  | tokenPoll hdue => exact inv_tokenByte hinv hdue
  | responseOne hdue => exact inv_conclude (s := { s with resp := _ }) hinv (by decide) (.inr (seqPhase_of_responseDue hdue))
  | responseMore hdue hbs => exact inv_storeResponse hinv hdue (by rw [hbs]; decide)
  | ending hdue hr => exact inv_conclude hinv hr (seqPhase_of_dueClass hdue)

/-- XR1 leaves its transaction open with the frame sent. -/
theorem inv_deliverOutcome_xr1 {s : State} (c : BitVec 6) (a : BitVec 32) (hinv : Inv s) (hheld : s.busHeld = false)
    (hctx : s.ctxValid = true) : Inv (deliverOutcome (xr1 c a s)) := by
  obtain ⟨k, st, d, -, heq⟩ := exists_xr1_eq_polled_le c a s
  have hs := disciplined_of_inv hinv (seqPhase_of_busHeld hinv hheld)
  have hseq : seqPhase (polled c a k st d s).seq = .sent := by
    rw [polled]
    dsimp only
    split <;> rfl
  have hresult : pollOutcome (polled c a k st d s) ≠ .checksumError := by
    rcases pollOutcome_cases (polled c a k st d s) with h | h <;> rw [h] <;> decide
  rw [heq, deliverOutcome]
  refine inv_of ?_ ?_ hs.2 hresult fun _ _ => hctx
  · exact (tracePhase_openTransaction c a hs.1 (isLegalReception_map_rx _)).trans (congrArg some hseq.symm)
  · change true = decide (seqPhase (polled c a k st d s).seq ≠ .free)
    rw [hseq]; rfl

/-- A row that writes no register of the invariant keeps it. -/
theorem inv_of_registers {s t : State} (hinv : Inv s) (htx : t.txRev = s.txRev) (hseq : t.seq = s.seq)
    (hheld : t.busHeld = s.busHeld) (hlen : t.rlen = s.rlen) (hresult : t.result = s.result) (hctx : t.ctxValid = s.ctxValid) : Inv t := by
  obtain ⟨hphase, hbus, hrlen, hclass, hvalid⟩ := hinv
  refine inv_of ?_ ?_ (hlen ▸ hrlen) (by rwa [hresult]) ?_
  · rw [htx, hseq, hphase]
  · rw [hheld, hseq, hbus]
  · rw [hseq, hctx]; exact hvalid

/-- An exchange ends with one of two classes, back at its caller and with the bus free (R155). -/
theorem xcmdCall_ends (ret : Seq) (c : BitVec 6) (a : BitVec 32) (n : Nat) (s : State) :
    ((xcmdCall ret c a n s).result = .success ∨ (xcmdCall ret c a n s).result = .timeout) ∧
      (xcmdCall ret c a n s).seq = ret ∧ (xcmdCall ret c a n s).busHeld = false := by
  obtain ⟨k, st, d, -, heq⟩ := exists_xr1_eq_polled_le c a (loadExchange ret c a n s)
  rw [xcmdCall]
  rcases xcmdBody_cases c a n (loadExchange ret c a n s) with h | h | h <;> rw [h, heq, endExchange_eq]
  · exact ⟨.inr rfl, rfl, rfl⟩
  · exact ⟨.inl rfl, rfl, rfl⟩
  · exact ⟨.inl rfl, rfl, rfl⟩

theorem ne_checksumError_of_or {r r₁ r₂ : Result} (h : r = r₁ ∨ r = r₂) (h₁ : r₁ ≠ .checksumError)
    (h₂ : r₂ ≠ .checksumError) : r ≠ .checksumError := by
  rcases h with rfl | rfl
  · exact h₁
  · exact h₂

theorem inv_xcmdCall {s : State} (c : BitVec 6) (a : BitVec 32) {n : Nat} (hn : 1 ≤ n) (hn' : n ≤ 5)
    (hs : Disciplined s) : Inv (xcmdCall .idle c a n s) := by
  obtain ⟨hphase, hlen⟩ := xcmdCall_phase .idle c a hn hn' hs.1
  obtain ⟨hresult, hseq, hheld⟩ := xcmdCall_ends .idle c a n s
  exact inv_of_ended ⟨hphase, by rw [hlen, legalRlen_iff]; exact ⟨hn, hn'⟩⟩ hseq hheld
    (ne_checksumError_of_or hresult (by decide) (by decide))

theorem ReadEnds.result_ne {a : BitVec 32} {s t : State} (h : ReadEnds a s t) : t.result ≠ .checksumError := by
  rcases h.result with hr | hr | hr <;> rw [hr] <;> decide

theorem inv_rdblk {s : State} (a : BitVec 32) (hs : Disciplined s) : Inv (rdblk a s) := by
  have hends := readEnds_rdblk a s
  obtain ⟨-, -, -, ⟨rs, hrs, htx⟩, ⟨-, -, -, hheld, hseq⟩, ⟨hlen, -⟩⟩ := id hends
  refine inv_of_ended ⟨?_, by rw [hlen]; exact hs.2⟩ hseq hheld hends.result_ne
  rw [htx]
  exact tracePhase_transaction 17#6 a hs.1 hrs

theorem capacityEnding_result_ne (s : State) (n a p : Nat) : (capacityEnding s n a p).result ≠ .checksumError := by
  rw [capacityEnding]
  cases pollEnd s n p with
  | none => nofun
  | some k => dsimp only; split_ifs <;> nofun

theorem interfaceEnding_result_ne (s : State) (n m p : Nat) : (interfaceEnding s n m p).result ≠ .checksumError := by
  rw [interfaceEnding]
  cases pollEnd s n p with
  | none => nofun
  | some k =>
    dsimp only
    split_ifs
    · exact capacityEnding_result_ne _ _ _ _
    · nofun
    · nofun

/-- The table of R180 never names CHECKSUM_ERROR (R205). -/
theorem initEnding_result_ne (s : State) (n m : Nat) : (initEnding s n m).result ≠ .checksumError := by
  rw [initEnding]
  cases pollEnd s n 0 with
  | none => nofun
  | some k =>
    dsimp only
    split
    case isTrue => exact interfaceEnding_result_ne _ _ _ _
    case isFalse => nofun

theorem initOperation_result_ne (b o : Div) (n : Nat) {s : State} (h : s.busHeld = false) :
    (initOperation b o n s).result ≠ .checksumError := by
  obtain ⟨u, heq, -⟩ := initEnds_initOperation b o n h
  rw [heq, finish_result]
  exact initEnding_result_ne s n _

theorem inv_initOperation {s : State} (b o : Div) (n : Nat) (hs : Disciplined s) (hheld : s.busHeld = false) :
    Inv (initOperation b o n s) := by
  have hresult := initOperation_result_ne b o n hheld
  obtain ⟨u, heq, hcloses⟩ := initEnds_initOperation b o n hheld
  have htracks := hcloses.tracks.finish (initEnding s n s.cfg.negAttempts).result
  rw [← heq] at htracks
  exact inv_of_ended (htracks.disciplined hs) (by rw [heq, finish_seq]) htracks.busHeld hresult

/-- Each operation that completes keeps the invariant. -/
theorem OperationCase.inv {i : Instr} {s t : State} (h : OperationCase i s t) (hinv : Inv s) : Inv t := by
  have hdisciplined (hfree : Free s) : Disciplined s := disciplined_of_inv hinv (by rw [hfree.1]; rfl)
  cases h with
  | crc7 => exact inv_of_registers hinv rfl rfl rfl rfl rfl rfl
  | frame => exact inv_of_registers hinv rfl rfl rfl rfl rfl rfl
  | xr1 _ hheld hctx => exact inv_deliverOutcome_xr1 _ _ (inv_of_registers hinv rfl rfl rfl rfl rfl rfl) hheld hctx
  | xcmd _ hfree _ hn hn' => exact inv_xcmdCall _ _ hn hn' (hdisciplined hfree)
  | rdblk _ hfree => exact inv_rdblk _ (hdisciplined hfree)
  | init _ hfree => exact inv_initOperation _ _ _ (hdisciplined hfree) hfree.2

/-- Settles O49: an operation or a row below them. -/
theorem execKeepsInvariant : Obligations.ExecKeepsInvariant := by
  intro i s t hinv hexec
  exact (cases_of_exec hexec).elim (fun h => h.inv hinv) (fun h => h.inv hinv)

/-! ### The invariant, step by step -/

/-- An exchange begins outside any transaction, with a legal response length and a context (R155, R156). -/
theorem inv_beginExchange {s : State} (ret : Seq) (c : BitVec 6) (a : BitVec 32) {n : Nat} (hinv : Inv s)
    (hfree : seqPhase s.seq = .free) (hctx : s.ctxValid = true) (hn : legalRlen n = true) :
    Inv (beginExchange ret c a n s) :=
  inv_of_event (e := .acquire) hinv rfl (by rw [hfree]; rfl) rfl hn rfl hctx

/-- The first event of each operation keeps the invariant. -/
theorem BeginCase.inv {s t : State} (h : BeginCase s t) (hinv : Inv s) : Inv t := by
  have hlen : legalRlen s.rlen = true := hinv.2.2.1
  cases h with
  | crc7 hfree =>
    obtain ⟨hphase, -, -, hresult, -⟩ := hinv
    rw [hfree.1] at hphase
    exact inv_of hphase hfree.2 hlen hresult fun _ hrun => absurd rfl hrun
  | frame => exact inv_of_registers hinv rfl rfl rfl rfl rfl rfl
  | xcmd hfree hctx hn hn' =>
    exact inv_beginExchange _ _ _ hinv (by rw [hfree.1]; rfl) hctx ((legalRlen_iff _).mpr ⟨hn, hn'⟩)
  | rdblk hfree hctx => exact inv_of_event (e := .acquire) hinv rfl (by rw [hfree.1]; rfl) rfl hlen rfl hctx
  | @init b o n hfree =>
    exact inv_of_event (e := .cfg b .msbFirst .mode0) hinv rfl (by rw [hfree.1]; rfl) hfree.2 hlen rfl rfl

/-- A byte of a checksum, or its end. -/
theorem inv_crcAbsorb {s : State} (hinv : Inv s) (hseq : s.seq = .cRun) : Inv (crcAbsorb s) := by
  rw [crcAbsorb]
  split
  case h_1 => exact inv_of_registers hinv rfl rfl rfl rfl rfl rfl
  case h_2 =>
    obtain ⟨hphase, hbus, hlen, hresult, -⟩ := hinv
    rw [hseq] at hphase hbus
    exact inv_of hphase hbus hlen hresult fun hne => absurd rfl hne

theorem inv_pollAttempt {s : State} (hinv : Inv s) (hdue : statusPolling s = true) : Inv (pollAttempt s) := by
  have hbyte : Inv (statusByte (s.rxAt 0) (s.rxDrop 1)) := inv_statusByte (s := s.rxDrop 1) hinv hdue
  rw [pollAttempt]
  split
  · exact inv_enterBlockCheck hbyte rfl
  · exact hbyte

/-- The length of a payload is legal (R54, R94). -/
theorem legalReception_payload {n : Nat} (h : legalRlen n = true) (hn : n ≠ 1) : legalReception (n - 1) = true := by
  obtain ⟨hle, hle'⟩ := (legalRlen_iff n).mp h
  simp only [legalReception, Bool.or_eq_true, Bool.and_eq_true, decide_eq_true_eq]
  omega

theorem inv_takePayload {s : State} (hinv : Inv s) (hdue : responseDue s = true) (hn : s.rlen ≠ 1) :
    Inv (takePayload s.rlen s) := by
  obtain ⟨-, -, hlen, -⟩ := id hinv
  exact inv_storeResponse (s := s.rxDrop (s.rlen - 1)) hinv hdue (by rw [rxTake_length]; exact legalReception_payload hlen hn)

/-- A multi-byte reception of the block read keeps the invariant (R194, R195). -/
theorem inv_takeData {s : State} (hinv : Inv s) (hseq : s.seq = .bToken) : Inv (takeData s) :=
  inv_of_reception (e := .rxn (s.rxTake blockLen)) hinv (by rw [hseq]; rfl) rfl
    (by rw [isLegalReception, rxTake_length]; decide) rfl rfl rfl rfl rfl

theorem inv_drainChecksum {s : State} (hinv : Inv s) (hseq : s.seq = .bData) : Inv (drainChecksum s) :=
  inv_of_reception (e := .rxn (s.rxTake 2)) hinv (by rw [hseq]; rfl) rfl
    (by rw [isLegalReception, rxTake_length]; decide) rfl rfl rfl rfl rfl

theorem seqPhase_of_callsExchange {q : Seq} (h : callsExchange q = true) : seqPhase q = .free ∧ q ≠ .idle ∧ q ≠ .cRun := by
  cases q with
  | iCfg | iS1 | iS2 | iS3A | iS3B => exact ⟨rfl, by decide, by decide⟩
  | _ => cases h

/-- Each step keeps the invariant. -/
theorem StepCase.inv {s t : State} (h : StepCase s t) (hinv : Inv s) : Inv t := by
  obtain ⟨-, hbus, hlen, -, hctx⟩ := id hinv
  cases h with
  | rest => exact hinv
  | ending hdue hr => exact inv_conclude hinv hr (seqPhase_of_dueClass hdue)
  | operation _ _ hcase => exact hcase.inv (inv_of_registers hinv rfl rfl rfl rfl rfl rfl)
  | begun _ hcase => exact hcase.inv (inv_of_registers hinv rfl rfl rfl rfl rfl rfl)
  | absorb hseq => exact inv_crcAbsorb hinv hseq
  | settle hseq =>
    exact inv_of_event (e := .idle 1) hinv rfl (by rw [hseq]; rfl) (by rw [pulse, emit, hbus, hseq]; rfl) hlen rfl
      (hctx (by rw [hseq]; decide) (by rw [hseq]; decide))
  | frame hseq => exact inv_sendFrame _ _ hinv hseq
  | statusPoll hdue => exact inv_pollAttempt hinv hdue
  | responseOne hdue =>
    exact inv_conclude (s := storeStatus s) hinv (by decide) (.inr (seqPhase_of_responseDue hdue))
  | responseMore hdue hn => exact inv_takePayload hinv hdue hn
  | tokenPoll hdue => exact inv_tokenByte (s := s.rxDrop 1) hinv hdue
  | data hseq => exact inv_takeData hinv hseq
  | drain hseq => exact inv_drainChecksum hinv hseq
  | preamble hseq =>
    exact inv_of_event (e := .idle s.cfg.preambleClocks) hinv rfl (by rw [Machine.preamble, emit, hseq]; rfl)
      (by rw [Machine.preamble, emit, hbus]) hlen rfl (hctx (by rw [hseq]; decide) (by rw [hseq]; decide))
  | call hcalls hn =>
    obtain ⟨hfree, hidle, hrun⟩ := seqPhase_of_callsExchange hcalls
    exact inv_beginExchange (s := { s with attCnt := _ }) _ _ _ hinv hfree (hctx hidle hrun) hn
  | speedUp hseq =>
    exact inv_of_event (e := .cfg s.ctxDiv .msbFirst .mode0) hinv rfl (by rw [hseq]; rfl)
      (by rw [configure, emit, hbus, hseq]; rfl) hlen rfl (hctx (by rw [hseq]; decide) (by rw [hseq]; decide))

/-- Settles O47: the invariant over everything a step can do. -/
theorem stepKeepsInvariant : Obligations.StepKeepsInvariant := by
  intro s t hinv hstep
  exact (stepCase_of_step hstep).inv hinv

/-- Settles O48: the registers of R230. -/
theorem resetHasInvariant : Obligations.ResetHasInvariant := by
  refine ⟨inv_of rfl rfl rfl (by decide) fun hne => absurd rfl hne, ⟨Nat.zero_le _, ?_, ?_⟩, rfl, rfl, rfl, rfl⟩ <;>
    exact fun _ => Nat.zero_le _

/-- Settles O59: the reset event's condition, and the registers it writes. -/
theorem resetEffect : Obligations.ResetEffect := by
  refine ⟨⟨rfl, rfl, rfl, rfl⟩, fun s hseq => ⟨_, if_pos hseq, rfl, rfl, rfl, rfl, rfl, rfl⟩, fun s hseq => if_neg hseq⟩

end Sys2Proof.Machine

/-! PROOFS. What a step and an instruction leave alone besides the invariant: the bytes of RX none of which is skipped
(20_memory.md section 6), the events a step adds (92_eei_decisions.md D30), the classes, the context, DATA, the budgets and the
environment. -/

namespace Sys2Proof.Machine

open Spec

/-! ### The bytes received -/

theorem receivedBytes_append (es fs : List Event) : receivedBytes (es ++ fs) = receivedBytes es ++ receivedBytes fs := by
  induction es with
  | nil => rfl
  | cons e es ih => cases e <;> simp [receivedBytes, ih]

theorem receivedBytes_map_rx (bs : List Byte) : receivedBytes (bs.map .rx) = bs := by
  induction bs with
  | nil => rfl
  | cons b bs ih => simp [receivedBytes, ih]

/-- From `s` to `t` TX grew by events that received the next bytes of RX, as many as RX advanced by (R60, R55). -/
def Advances (s t : State) : Prop := ∃ (n : Nat) (es : List Event),
  t.txRev = extend s es ∧ receivedBytes es = s.rxTake n ∧ t.rx = s.rx.drop n ∧ t.rxPos = s.rxPos + n

namespace Advances

variable {s t u : State}

/-- No event. -/
theorem of_quiet (htx : t.txRev = s.txRev) (hrx : t.rx = s.rx) (hpos : t.rxPos = s.rxPos) : Advances s t :=
  ⟨0, [], htx, rfl, hrx, hpos⟩

/-- One event, which received `n` bytes. -/
theorem of_event {e : Event} (n : Nat) (he : receivedBytes [e] = s.rxTake n) (htx : t.txRev = e :: s.txRev)
    (hrx : t.rx = s.rx.drop n) (hpos : t.rxPos = s.rxPos + n) : Advances s t :=
  ⟨n, [e], htx, he, hrx, hpos⟩

theorem trans (hst : Advances s t) (htu : Advances t u) : Advances s u := by
  obtain ⟨m, es, htx, hbytes, hrx, hpos⟩ := hst
  obtain ⟨n, fs, hutx, hubytes, hurx, hupos⟩ := htu
  refine ⟨m + n, es ++ fs, ?_, ?_, ?_, ?_⟩
  · rw [hutx, extend, htx, extend, extend, List.reverse_append, List.append_assoc]
  · have hnext : t.rxTake n = rxFrom s m n :=
      rxTake_eq_rxFrom (fun i => (rxAt_congr (s := s.rxDrop m) hrx hpos i).trans (rxAt_rxDrop s m i)) n
    have hall := rxFrom_append s 0 m n
    rw [Nat.zero_add, rxFrom_zero, rxFrom_zero] at hall
    rw [receivedBytes_append, hbytes, hubytes, hnext, hall]
  · rw [hurx, hrx, List.drop_drop]
  · rw [hupos, hpos, Nat.add_assoc]

end Advances

/-- XR1 receives the bytes of its poll (R153). -/
theorem advances_xr1 (c : BitVec 6) (a : BitVec 32) (s : State) : Advances s (xr1 c a s) := by
  obtain ⟨k, st, d, -, heq⟩ := exists_xr1_eq_polled_le c a s
  rw [heq]
  exact ⟨k, _, rfl, (receivedBytes_map_rx _).trans (rxFrom_zero s k), rfl, rfl⟩

theorem advances_finish (r : Result) (s : State) : Advances s (finish r s) := by
  rw [finish_eq]
  cases s.busHeld with
  | false => exact .of_quiet rfl rfl rfl
  | true => exact .of_event (e := .release) 0 rfl rfl rfl rfl

theorem advances_endExchange (r : Result) (s : State) : Advances s (endExchange r s) := by
  rw [endExchange_eq]
  cases s.busHeld with
  | false => exact .of_quiet rfl rfl rfl
  | true => exact .of_event (e := .release) 0 rfl rfl rfl rfl

theorem advances_conclude (r : Result) (s : State) : Advances s (conclude r s) := by
  obtain ⟨resp, d, att, ret, heq, -⟩ := exists_conclude_eq r s
  rw [heq]
  cases s.busHeld with
  | false => exact .of_quiet rfl rfl rfl
  | true => exact .of_event (e := .release) 0 rfl rfl rfl rfl

theorem receivedBytes_rxn (bs : List Byte) : receivedBytes [.rxn bs] = bs := List.append_nil bs

theorem advances_takePayload (n : Nat) (s : State) : Advances s (takePayload n s) :=
  .of_event (e := .rxn (s.rxTake (n - 1))) (n - 1) (receivedBytes_rxn _) rfl rfl rfl

theorem advances_takeData (s : State) : Advances s (takeData s) :=
  .of_event (e := .rxn (s.rxTake blockLen)) blockLen (receivedBytes_rxn _) rfl rfl rfl

theorem advances_drainChecksum (s : State) : Advances s (drainChecksum s) :=
  .of_event (e := .rxn (s.rxTake 2)) 2 (receivedBytes_rxn _) rfl rfl rfl

theorem advances_tokenByte (s : State) : Advances s (tokenByte (s.rxAt 0) (s.rxDrop 1)) :=
  .of_event (e := .rx (s.rxAt 0)) 1 rfl rfl rfl rfl

theorem advances_xcmdCall (ret : Seq) (c : BitVec 6) (a : BitVec 32) (n : Nat) (s : State) :
    Advances s (xcmdCall ret c a n s) := by
  have hload : Advances s (loadExchange ret c a n s) := .of_quiet rfl rfl rfl
  have hpoll := hload.trans (advances_xr1 c a _)
  rw [xcmdCall]
  rcases xcmdBody_cases c a n (loadExchange ret c a n s) with h | h | h <;> rw [h]
  · exact (hpoll.trans (.of_quiet (t := drawResp _) rfl rfl rfl)).trans (advances_endExchange ..)
  · exact (hpoll.trans (.of_quiet (t := storeStatus _) rfl rfl rfl)).trans (advances_endExchange ..)
  · exact (hpoll.trans (advances_takePayload ..)).trans (advances_endExchange ..)

theorem advances_tokenLoop (n : Nat) (s : State) : Advances s (tokenLoop n s).2 := by
  induction n generalizing s with
  | zero => exact .of_quiet rfl rfl rfl
  | succ n ih =>
    rw [tokenLoop]
    split
    case isTrue => exact (advances_tokenByte s).trans (ih _)
    case isFalse => exact advances_tokenByte s

theorem advances_readData (s : State) : Advances s (readData s) := by
  rw [readData]
  split
  case isTrue => exact (advances_takeData s).trans (advances_drainChecksum _)
  case isFalse => exact advances_takeData s

theorem advances_readAfterStatus (s : State) : Advances s (readAfterStatus s) := by
  have hbudget : Advances s (loadTokenBudget s) := .of_quiet rfl rfl rfl
  have hpoll := hbudget.trans (advances_tokenLoop s.cfg.tokenPolls (loadTokenBudget s))
  rw [readAfterStatus_of_tokenLoop rfl]
  split_ifs
  · exact hpoll.trans (advances_finish ..)
  · exact hpoll.trans (advances_finish ..)
  · exact (hpoll.trans (advances_readData _)).trans (advances_finish ..)

theorem advances_rdblk (a : BitVec 32) (s : State) : Advances s (rdblk a s) := by
  have hload : Advances s (loadRead a s) := .of_quiet rfl rfl rfl
  have hpoll := hload.trans (advances_xr1 readCmd a _)
  unfold rdblk
  dsimp only
  split_ifs
  · exact hpoll.trans (advances_finish ..)
  · exact hpoll.trans (advances_finish ..)
  · exact hpoll.trans (advances_readAfterStatus _)

theorem advances_configure (d : Div) (s : State) : Advances s (configure d s) :=
  .of_event (e := .cfg d .msbFirst .mode0) 0 rfl rfl rfl rfl

theorem advances_preamble (s : State) : Advances s (preamble s) :=
  .of_event (e := .idle s.cfg.preambleClocks) 0 rfl rfl rfl rfl

theorem keptByInit_advances (s : State) : KeptByInit (Advances s) where
  xcmdCall ret c a n h := h.trans (advances_xcmdCall ret c a n _)
  setAttCnt _ h := h.trans (.of_quiet rfl rfl rfl)
  configure d h := h.trans (advances_configure d _)
  finish r h := h.trans (advances_finish r _)

theorem advances_initBegin (b o : Div) (n : Nat) (s : State) : Advances s (initBegin b o n s) :=
  .of_event (e := .cfg b .msbFirst .mode0) 0 rfl rfl rfl rfl

/-- Each operation that completes received the bytes it took. -/
theorem OperationCase.advances {i : Instr} {s t : State} (h : OperationCase i s t) : Advances s t := by
  cases h with
  | crc7 => exact .of_quiet rfl rfl rfl
  | frame => exact .of_quiet rfl rfl rfl
  | @xr1 c a => exact advances_xr1 c a (loadCommand c a s)
  | xcmd => exact advances_xcmdCall ..
  | rdblk => exact advances_rdblk ..
  | @init b o n =>
    have hbegin := advances_initBegin b o n s
    exact (keptByInit_advances s).initOperation hbegin (hbegin.trans (advances_preamble _))

theorem BeginCase.advances {s t : State} (h : BeginCase s t) : Advances s t := by
  cases h with
  | crc7 | frame => exact .of_quiet rfl rfl rfl
  | xcmd | rdblk => exact .of_event (e := .acquire) 0 rfl rfl rfl rfl
  | init => exact advances_initBegin ..

theorem advances_crcAbsorb (s : State) : Advances s (crcAbsorb s) := by
  rw [crcAbsorb]
  split <;> exact .of_quiet rfl rfl rfl

theorem advances_sendFrame (c : BitVec 6) (a : BitVec 32) (s : State) : Advances s (sendFrame c a s) := by
  obtain ⟨st, d, heq, -⟩ := exists_sendFrame_eq c a s
  rw [heq]
  exact .of_event (e := .send (frame c a).toList) 0 rfl rfl rfl rfl

theorem advances_pollAttempt (s : State) : Advances s (pollAttempt s) := by
  rw [pollAttempt, enterBlockCheck_eq]
  split <;> exact .of_event (e := .rx (s.rxAt 0)) 1 rfl rfl rfl rfl

/-- Each step received the bytes it took. -/
theorem StepCase.advances {s t : State} (h : StepCase s t) : Advances s t := by
  cases h with
  | rest => exact .of_quiet rfl rfl rfl
  | ending => exact advances_conclude ..
  | operation _ _ hcase => exact hcase.advances
  | begun _ hcase => exact hcase.advances
  | absorb => exact advances_crcAbsorb s
  | settle => exact .of_event (e := .idle 1) 0 rfl rfl rfl rfl
  | frame => exact advances_sendFrame ..
  | statusPoll => exact advances_pollAttempt s
  | responseOne => exact advances_conclude .success (storeStatus s)
  | responseMore => exact advances_takePayload ..
  | tokenPoll => exact advances_tokenByte s
  | data => exact advances_takeData s
  | drain => exact advances_drainChecksum s
  | preamble => exact advances_preamble s
  | call => exact .of_event (e := .acquire) 0 rfl rfl rfl rfl
  | speedUp => exact advances_configure s.ctxDiv { s with seq := .iS5 }

/-- Settles O53: over everything a step can do. -/
theorem receivedBytesAreTheNextOfRx : Obligations.ReceivedBytesAreTheNextOfRx := by
  intro s t hstep
  obtain ⟨n, es, htx, hbytes, hrx, hpos⟩ := (stepCase_of_step hstep).advances
  exact ⟨n, es, tx_of_txRev_extend htx, hbytes, hrx, hpos⟩

/-! ### What the rows below the operations keep -/

/-- No event, or one. -/
def AtMostOneEvent (s t : State) : Prop := t.txRev = s.txRev ∨ ∃ e, t.txRev = e :: s.txRev

/-- CHECKSUM_ERROR is not made. -/
def NoNewChecksumError (s t : State) : Prop := t.result = .checksumError → s.result = .checksumError

/-- What every row below the operations keeps: its bytes have already been taken from RX by the fetch. -/
structure RowKeeps (s t : State) : Prop where
  data : t.data = s.data
  context : t.ctxTb = s.ctxTb ∧ t.ctxDiv = s.ctxDiv ∧ t.ctxValid = s.ctxValid
  environment : t.cfg = s.cfg ∧ t.grain = s.grain ∧ t.host = s.host
  rx : t.rx = s.rx ∧ t.rxPos = s.rxPos
  events : AtMostOneEvent s t
  result : NoNewChecksumError s t

theorem rowKeeps_conclude {r : Result} (hr : r ≠ .checksumError) (s : State) : RowKeeps s (conclude r s) := by
  obtain ⟨resp, d, att, ret, heq, -⟩ := exists_conclude_eq r s
  rw [heq]
  refine ⟨rfl, ⟨rfl, rfl, rfl⟩, ⟨rfl, rfl, rfl⟩, ⟨rfl, rfl⟩, ?_, fun hresult => absurd hresult hr⟩
  cases s.busHeld with
  | false => exact .inl rfl
  | true => exact .inr ⟨_, rfl⟩

theorem rowKeeps_sendFrame (c : BitVec 6) (a : BitVec 32) (s : State) : RowKeeps s (sendFrame c a s) := by
  obtain ⟨st, d, heq, -⟩ := exists_sendFrame_eq c a s
  rw [heq]
  exact ⟨rfl, ⟨rfl, rfl, rfl⟩, ⟨rfl, rfl, rfl⟩, ⟨rfl, rfl⟩, .inr ⟨_, rfl⟩, id⟩

theorem RowCase.keeps {s t : State} (h : RowCase s t) : RowKeeps s t := by
  cases h with
  | frame => exact rowKeeps_sendFrame ..
  | statusPoll => exact ⟨rfl, ⟨rfl, rfl, rfl⟩, ⟨rfl, rfl, rfl⟩, ⟨rfl, rfl⟩, .inr ⟨_, rfl⟩, id⟩
  | readStatus =>
    rw [enterBlockCheck_eq]
    exact ⟨rfl, ⟨rfl, rfl, rfl⟩, ⟨rfl, rfl, rfl⟩, ⟨rfl, rfl⟩, .inr ⟨_, rfl⟩, id⟩
  | tokenPoll => exact ⟨rfl, ⟨rfl, rfl, rfl⟩, ⟨rfl, rfl, rfl⟩, ⟨rfl, rfl⟩, .inr ⟨_, rfl⟩, id⟩
  | responseOne =>
    obtain ⟨hdata, hcontext, henvironment, hrx, hevents, hresult⟩ :=
      rowKeeps_conclude (r := .success) (by decide) { s with resp := storeBytes [_] s.resp }
    exact ⟨hdata, hcontext, henvironment, hrx, hevents, hresult⟩
  | responseMore => exact ⟨rfl, ⟨rfl, rfl, rfl⟩, ⟨rfl, rfl, rfl⟩, ⟨rfl, rfl⟩, .inr ⟨_, rfl⟩, id⟩
  | ending _ hr => exact rowKeeps_conclude hr s

/-! ### What the operations keep -/

/-- What every operation that completes keeps. -/
structure OperationKeeps (s t : State) : Prop where
  environment : t.cfg = s.cfg ∧ t.grain = s.grain ∧ t.host = s.host
  ctxValid : s.ctxValid = true → t.ctxValid = true
  result : NoNewChecksumError s t

theorem pollOutcome_ne (s : State) : pollOutcome s ≠ .checksumError :=
  ne_checksumError_of_or (pollOutcome_cases s) (by decide) (by decide)

theorem OperationCase.keeps {i : Instr} {s t : State} (h : OperationCase i s t) : OperationKeeps s t := by
  cases h with
  | crc7 | frame => exact ⟨⟨rfl, rfl, rfl⟩, id, id⟩
  | @xr1 c a =>
    obtain ⟨k, st, d, -, heq⟩ := exists_xr1_eq_polled_le c a (loadCommand c a s)
    rw [heq]
    exact ⟨⟨rfl, rfl, rfl⟩, id, fun hresult => absurd hresult (pollOutcome_ne _)⟩
  | @xcmd c a n =>
    obtain ⟨-, -, -, hhost, -, hcfg, hgrain, -, -, -, hctx⟩ := exchangeKeeps_xcmdCall .idle c a n s
    obtain ⟨hresult, -⟩ := xcmdCall_ends .idle c a n s
    exact ⟨⟨hcfg, hgrain, hhost⟩, hctx.trans,
      fun hclass => absurd hclass (ne_checksumError_of_or hresult (by decide) (by decide))⟩
  | @rdblk a =>
    have hends := readEnds_rdblk a s
    obtain ⟨-, hctx, -, hcfg, hgrain, hhost⟩ := hends.kept
    exact ⟨⟨hcfg, hgrain, hhost⟩, hctx.trans, fun hclass => absurd hclass hends.result_ne⟩
  | @init b o n _ hfree =>
    obtain ⟨-, -, -, hhost, -, hcfg, hgrain⟩ := initKeeps_initOperation b o n s
    obtain ⟨u, heq, hcloses⟩ := initEnds_initOperation b o n hfree.2
    have htracks := hcloses.tracks.finish (initEnding s n s.cfg.negAttempts).result
    rw [← heq] at htracks
    obtain ⟨-, -, hctx⟩ := htracks.context
    exact ⟨⟨hcfg, hgrain, hhost⟩, fun _ => hctx, fun hclass => absurd hclass (initOperation_result_ne b o n hfree.2)⟩

/-- Settles O58: an operation advances RX and TX together; a row below them leaves RX to the fetch. -/
theorem environmentIsNotRewritten : Obligations.EnvironmentIsNotRewritten := by
  intro i s t hexec
  rcases cases_of_exec hexec with h | h
  case inl =>
    obtain ⟨n, es, htx, -, hrx, hpos⟩ := h.advances
    obtain ⟨⟨hcfg, hgrain, hhost⟩, -⟩ := h.keeps
    exact ⟨hcfg, hgrain, hhost, by omega, by rw [hrx, hpos, Nat.add_sub_cancel_left], es, tx_of_txRev_extend htx⟩
  case inr =>
    obtain ⟨-, -, ⟨hcfg, hgrain, hhost⟩, ⟨hrx, hpos⟩, hevents, -⟩ := h.keeps
    refine ⟨hcfg, hgrain, hhost, hpos.ge, by rw [hrx, hpos, Nat.sub_self]; rfl, ?_⟩
    rcases hevents with htx | ⟨e, htx⟩
    · exact ⟨[], tx_of_txRev_extend htx⟩
    · exact ⟨[e], tx_of_txRev_extend htx⟩

/-- Settles O57: of the operations only a block read writes DATA, and only when it succeeds; no row below them does. -/
theorem onlyASuccessfulReadWritesData : Obligations.OnlyASuccessfulReadWritesData := by
  intro i s t hexec hdata
  rcases cases_of_exec hexec with h | h
  case inr => exact absurd h.keeps.data hdata
  case inl =>
    cases h with
    | crc7 | frame => exact absurd rfl hdata
    | @xr1 c a =>
      obtain ⟨k, st, d, -, heq⟩ := exists_xr1_eq_polled_le c a (loadCommand c a s)
      rw [heq] at hdata
      exact absurd rfl hdata
    | xcmd => exact absurd (exchangeKeeps_xcmdCall ..).data hdata
    | @rdblk a hi => exact ⟨⟨a, hi⟩, not_not.mp fun hresult => hdata ((readEnds_rdblk a s).data hresult)⟩
    | init => exact absurd (initKeeps_initOperation ..).data hdata

theorem OperationCase.context {i : Instr} {s t : State} (h : OperationCase i s t) (hi : ∀ b o n, i ≠ .init b o n) :
    t.ctxTb = s.ctxTb ∧ t.ctxDiv = s.ctxDiv ∧ t.ctxValid = s.ctxValid := by
  cases h with
  | crc7 | frame => exact ⟨rfl, rfl, rfl⟩
  | @xr1 c a =>
    obtain ⟨k, st, d, -, heq⟩ := exists_xr1_eq_polled_le c a (loadCommand c a s)
    rw [heq]
    exact ⟨rfl, rfl, rfl⟩
  | xcmd => exact (exchangeKeeps_xcmdCall ..).context
  | @rdblk a =>
    obtain ⟨-, htb, hdiv, -⟩ := (readEnds_rdblk a s).frame
    obtain ⟨-, hctx, -⟩ := (readEnds_rdblk a s).kept
    exact ⟨htb, hdiv, hctx⟩
  | init hinit => exact absurd hinit (hi _ _ _)

/-! ### What a step keeps -/

/-- What every step keeps. -/
structure StepKeeps (s t : State) : Prop where
  ctxValid : s.ctxValid = true → t.ctxValid = true
  result : NoNewChecksumError s t
  events : s.grain = .event → AtMostOneEvent s t

theorem RowKeeps.step {s t : State} (h : RowKeeps s t) : StepKeeps s t :=
  ⟨h.context.2.2.trans, h.result, fun _ => h.events⟩

theorem BeginCase.keeps {s t : State} (h : BeginCase s t) : StepKeeps s t := by
  cases h with
  | crc7 | frame => exact ⟨id, id, fun _ => .inl rfl⟩
  | xcmd | rdblk => exact ⟨id, id, fun _ => .inr ⟨_, rfl⟩⟩
  | init => exact ⟨fun _ => rfl, id, fun _ => .inr ⟨_, rfl⟩⟩

theorem StepCase.keeps {s t : State} (h : StepCase s t) : StepKeeps s t := by
  cases h with
  | rest => exact ⟨id, id, fun _ => .inl rfl⟩
  | ending _ hr => exact (rowKeeps_conclude hr s).step
  | operation _ hgrain hcase =>
    obtain ⟨-, hctx, hresult⟩ := hcase.keeps
    exact ⟨hctx, hresult, fun hevent => by rw [hgrain] at hevent; cases hevent⟩
  | begun _ hcase =>
    obtain ⟨hctx, hresult, hevents⟩ := hcase.keeps
    exact ⟨hctx, hresult, hevents⟩
  | absorb =>
    rw [crcAbsorb]
    split <;> exact ⟨id, id, fun _ => .inl rfl⟩
  | frame => exact (rowKeeps_sendFrame ..).step
  | statusPoll =>
    rw [pollAttempt, enterBlockCheck_eq]
    split <;> exact ⟨id, id, fun _ => .inr ⟨_, rfl⟩⟩
  | responseOne =>
    obtain ⟨hctx, hresult, hevents⟩ := (rowKeeps_conclude (r := .success) (by decide) (storeStatus s)).step
    exact ⟨hctx, hresult, hevents⟩
  | settle | responseMore | tokenPoll | data | drain | preamble | call | speedUp =>
    exact ⟨id, id, fun _ => .inr ⟨_, rfl⟩⟩

/-- Settles O54: an operation runs whole at the other grain only. -/
theorem eventGrainMakesOneEvent : Obligations.EventGrainMakesOneEvent := by
  intro s t hgrain hstep
  rcases (stepCase_of_step hstep).keeps.events hgrain with htx | ⟨e, htx⟩
  · exact .inl (by rw [State.tx, State.tx, htx])
  · exact .inr ⟨e, tx_of_txRev_extend (es := [e]) htx⟩

/-- Settles O44: no ending writes the class, and nothing but endings writes RESULT. -/
theorem checksumErrorIsNeverProduced : Obligations.ChecksumErrorIsNeverProduced :=
  ⟨fun _ => rfl, fun _ _ _ hexec => (cases_of_exec hexec).elim (fun h => h.keeps.result) (fun h => h.keeps.result),
    fun _ _ hstep => (stepCase_of_step hstep).keeps.result⟩

/-- Settles O56: no operation but INIT, and no row below them, writes the context; INIT sets CTX_VALID. -/
theorem onlyInitWritesTheContext : Obligations.OnlyInitWritesTheContext :=
  ⟨fun _ _ _ hi hexec => (cases_of_exec hexec).elim (fun h => h.context hi) (fun h => h.keeps.context),
    fun _ _ hstep => (stepCase_of_step hstep).keeps.ctxValid⟩

/-! ### The budgets -/

/-- SEQ stands in a status poll, or in a token poll or before one. -/
def inPoll : Seq → Bool
  | .xSend | .xPoll | .bCheck | .bToken => true
  | .idle | .cRun | .xAcq | .xPulse | .xPayload | .xRel | .iCfg | .iS1 | .iS2 | .iS3A | .iS3B | .iS4 | .iS5
  | .bData | .bRel => false

/-- Outside the polls only ATT_CNT is bounded. -/
theorem countersBounded_of_not_inPoll {s : State} (hatt : s.attCnt ≤ s.cfg.negAttempts) (h : inPoll s.seq = false) :
    CountersBounded s := by
  refine ⟨hatt, fun hseq => ?_, fun hseq => ?_⟩
  · rcases hseq with hseq | hseq <;> rw [hseq] at h <;> cases h
  · rcases hseq with hseq | ⟨hseq, -⟩ <;> rw [hseq] at h <;> cases h

/-- In a status poll the budget is the timeout bound. -/
theorem countersBounded_of_statusPoll {s : State} (hatt : s.attCnt ≤ s.cfg.negAttempts) (hcnt : s.pollCnt ≤ s.ctxTb)
    (h : s.seq = .xSend ∨ s.seq = .xPoll) : CountersBounded s := by
  refine ⟨hatt, fun _ => hcnt, fun htoken => ?_⟩
  rcases h with h | h <;> simp [h] at htoken

/-- In a token poll, or before one, the budget is TOKEN_POLLS. -/
theorem countersBounded_of_tokenPoll {s : State} (hatt : s.attCnt ≤ s.cfg.negAttempts)
    (hcnt : s.seq = .bToken ∨ s.status = 0#8 → s.pollCnt ≤ s.cfg.tokenPolls) (h : s.seq = .bCheck ∨ s.seq = .bToken) :
    CountersBounded s := by
  refine ⟨hatt, fun hstatus => ?_, fun htoken => hcnt (htoken.imp_right And.right)⟩
  rcases h with h | h <;> simp [h] at hstatus

theorem inPoll_of_handshakeReturn {q : Seq} (h : handshakeReturn q = true) : inPoll q = false := by
  cases q with
  | iS1 | iS2 | iS3A | iS3B | iS4 => rfl
  | _ => cases h

theorem countersBounded_conclude (r : Result) {s : State} (hatt : s.attCnt ≤ s.cfg.negAttempts) :
    CountersBounded (conclude r s) := by
  obtain ⟨resp, d, att, ret, heq, hload⟩ := exists_conclude_eq r s
  rw [heq]
  refine countersBounded_of_not_inPoll ?_ ?_
  · rcases hload with rfl | rfl
    · exact hatt
    · exact le_rfl
  · dsimp only
    split
    case isTrue hcall => exact inPoll_of_handshakeReturn (Bool.and_eq_true_iff.mp hcall).2
    case isFalse => rfl

/-- INIT leaves ATT_CNT as it was, or what the attempts left of its budget (R176). -/
theorem initOperation_attCnt_le (b o : Div) (n : Nat) {s : State} (hheld : s.busHeld = false)
    (hatt : s.attCnt ≤ s.cfg.negAttempts) : (initOperation b o n s).attCnt ≤ s.cfg.negAttempts := by
  obtain ⟨u, heq, hcloses⟩ := initEnds_initOperation b o n hheld
  rw [heq, finish_attCnt, hcloses.attCnt]
  cases (initEnding s n s.cfg.negAttempts).attempts with
  | none => exact hatt
  | some k => exact Nat.sub_le ..

theorem OperationCase.countersBounded {i : Instr} {s t : State} (h : OperationCase i s t) (hs : CountersBounded s) :
    CountersBounded t := by
  obtain ⟨hatt, -⟩ := id hs
  obtain ⟨⟨hcfg, -⟩, -⟩ := h.keeps
  cases h with
  | crc7 | frame => exact hs
  | @xr1 c a =>
    obtain ⟨k, st, d, -, heq⟩ := exists_xr1_eq_polled_le c a (loadCommand c a s)
    rw [heq]
    refine countersBounded_of_statusPoll hatt (Nat.sub_le ..) ?_
    change (if k = 0 then Seq.xSend else Seq.xPoll) = .xSend ∨ (if k = 0 then Seq.xSend else Seq.xPoll) = .xPoll
    split
    · exact .inl rfl
    · exact .inr rfl
  | @xcmd c a n =>
    obtain ⟨-, hseq, -⟩ := xcmdCall_ends .idle c a n s
    have hkept := (exchangeKeeps_xcmdCall .idle c a n s).attCnt
    exact countersBounded_of_not_inPoll (by rw [hkept, hcfg]; exact hatt) (by rw [hseq]; rfl)
  | @rdblk a =>
    obtain ⟨-, -, -, -, hseq⟩ := (readEnds_rdblk a s).frame
    obtain ⟨-, -, hkept, -⟩ := (readEnds_rdblk a s).kept
    exact countersBounded_of_not_inPoll (by rw [hkept, hcfg]; exact hatt) (by rw [hseq]; rfl)
  | @init b o n _ hfree =>
    obtain ⟨u, heq, -⟩ := initEnds_initOperation b o n hfree.2
    refine countersBounded_of_not_inPoll (by rw [hcfg]; exact initOperation_attCnt_le b o n hfree.2 hatt) ?_
    rw [heq, finish_seq]; rfl

theorem BeginCase.countersBounded {s t : State} (h : BeginCase s t) (hs : CountersBounded s) : CountersBounded t := by
  cases h with
  | frame => exact hs
  | crc7 | xcmd | rdblk | init => exact countersBounded_of_not_inPoll hs.1 rfl

theorem countersBounded_pollAttempt {s : State} (hs : CountersBounded s) (hdue : statusPolling s = true) :
    CountersBounded (pollAttempt s) := by
  obtain ⟨hatt, hcnt, -⟩ := hs
  obtain ⟨-, hseq⟩ := (statusPolling_iff s).mp hdue
  rw [pollAttempt, enterBlockCheck]
  split_ifs with hread hgood
  · exact countersBounded_of_tokenPoll hatt (fun _ => le_rfl) (.inl rfl)
  · exact countersBounded_of_tokenPoll hatt (fun h => absurd (h.resolve_left nofun) hgood) (.inl rfl)
  · exact countersBounded_of_statusPoll hatt ((Nat.sub_le ..).trans (hcnt (hseq.imp_right And.left))) (.inr rfl)

theorem StepCase.countersBounded {s t : State} (h : StepCase s t) (hs : CountersBounded s) : CountersBounded t := by
  obtain ⟨hatt, -, htoken⟩ := id hs
  cases h with
  | rest => exact hs
  | ending => exact countersBounded_conclude _ hatt
  | operation _ _ hcase => exact hcase.countersBounded hs
  | begun _ hcase => exact hcase.countersBounded hs
  | absorb hseq =>
    rw [crcAbsorb]
    split
    · exact countersBounded_of_not_inPoll hatt (by rw [hseq]; rfl)
    · exact countersBounded_of_not_inPoll hatt rfl
  | frame =>
    obtain ⟨st, d, heq, -⟩ := exists_sendFrame_eq s.cmd s.arg s
    rw [heq]
    exact countersBounded_of_statusPoll hatt le_rfl (.inl rfl)
  | statusPoll hdue => exact countersBounded_pollAttempt hs hdue
  | responseOne => exact countersBounded_conclude (s := storeStatus s) _ hatt
  | tokenPoll hdue =>
    obtain ⟨-, hseq⟩ := (tokenPolling_iff s).mp hdue
    have hcnt : s.pollCnt ≤ s.cfg.tokenPolls := htoken (hseq.symm.imp_left And.left)
    exact countersBounded_of_tokenPoll hatt (fun _ => (Nat.sub_le ..).trans hcnt) (.inr rfl)
  | call _ _ hle => exact countersBounded_of_not_inPoll (hle.trans hatt) rfl
  | settle | responseMore | data | drain | speedUp => exact countersBounded_of_not_inPoll hatt rfl
  | preamble hseq => exact countersBounded_of_not_inPoll hatt (by rw [Machine.preamble, emit, hseq]; rfl)

/-- Settles O52: each step loads a budget, or spends of it. -/
theorem stepKeepsCountersBounded : Obligations.StepKeepsCountersBounded := by
  intro s t hs hstep
  exact (stepCase_of_step hstep).countersBounded hs

end Sys2Proof.Machine

/-! PROOFS. At event grain the steps of an operation bring the block to what the whole operation gives (92_eei_decisions.md D30,
"Exact either way"): each loop of a pseudocode is a run of steps, by induction on its budget, and each of its tests is the test
the sequencer makes at the same point. -/

namespace Sys2Proof.Machine

open Spec

/-! ### Runs of steps -/

theorem run_succ_of_step (M : Host.Core) (n : Nat) {s u : M.State} (h : M.step s = .next u) : M.run (n + 1) s = M.run n u := by
  rw [Host.Core.run, h]

/-- Some number of steps leads from `s` to `t`. -/
def Reaches : State → State → Prop := Relation.ReflTransGen (fun s t => step s = .next t)

namespace Reaches

variable {s t u : State}

theorem refl (s : State) : Reaches s s := Relation.ReflTransGen.refl

theorem trans (hst : Reaches s t) (htu : Reaches t u) : Reaches s u := Relation.ReflTransGen.trans hst htu

theorem of_step (h : step s = .next t) : Reaches s t := Relation.ReflTransGen.single h

/-- One step, and then others. -/
theorem head (h : step s = .next t) (htu : Reaches t u) : Reaches s u := Relation.ReflTransGen.head h htu

theorem exists_run (h : Reaches s t) : ∃ n : Nat, Host.Core.run core n s = .next t := by
  induction h using Relation.ReflTransGen.head_induction_on with
  | refl => exact ⟨0, rfl⟩
  | @head s u hstep _ ih =>
    obtain ⟨n, hrun⟩ := ih
    exact ⟨n + 1, (run_succ_of_step core n hstep).trans hrun⟩

/-- An ending outside a transaction that no poll leaves open ends the host's operation (R209). -/
theorem finish_of_dueClass {r : Result} (hdue : dueClass s = some r) (hr : r ≠ .checksumError) (hheld : s.busHeld = false)
    (hopen : exchangeOpen s = false) : Reaches s (finish r s) := by
  refine of_step ?_
  rw [step_of_dueClass hdue hr, conclude_of_host r (.inl hheld), drawIfOpen, if_neg (by simp [hopen])]

/-- An ending in a block read (R209). -/
theorem finish_of_blockRead {r : Result} (hdue : dueClass s = some r) (hr : r ≠ .checksumError) (hret : s.ret = .bCheck) :
    Reaches s (finish r s) :=
  of_step (by rw [step_of_dueClass hdue hr, conclude_of_blockRead r hret])

end Reaches

/-! ### CRC7 -/

/-- The message is absorbed byte by byte (R124). -/
theorem reaches_crcAbsorb (m : List Byte) (x : Byte) (s : State) :
    Reaches { s with acc := x, msgIn := m, seq := .cRun }
      { s with acc := m.foldl crcByte x, crcOut := m.foldl crcByte x, msgIn := [], seq := .idle } := by
  induction m generalizing x with
  | nil => exact .of_step (step_absorb rfl)
  | cons b m ih => exact .head (step_absorb rfl) (ih (crcByte x b))

theorem reaches_crcOperation (m : List Byte) {s : State} (hseq : s.seq = .idle) (hmsg : s.msgIn = []) :
    Reaches (crcBegin m s) (crcOperation m s) := by
  have hend : crcOperation m s =
      { s with acc := m.foldl crcByte crcInit, crcOut := m.foldl crcByte crcInit, msgIn := [], seq := .idle } := by
    rw [← hseq, ← hmsg]
    rfl
  rw [hend]
  exact reaches_crcAbsorb m crcInit s

/-! ### XR1 -/

/-- Where XR1 has returned: a block read whose status byte is valid stands at its check. -/
def pollReturn (s : State) : State := if pollOutcome s = .success ∧ s.ret = .bCheck then enterBlockCheck s else s

theorem pollAttempt_eq_pollReturn (s : State) : pollAttempt s = pollReturn (statusByte (s.rxAt 0) (s.rxDrop 1)) := by
  have houtcome : pollOutcome (statusByte (s.rxAt 0) (s.rxDrop 1)) = .success ↔ validStatus (s.rxAt 0) = true := by
    simp [pollOutcome, statusByte, emit]
  simp only [pollAttempt, pollReturn, houtcome]
  rfl

theorem pollReturn_of_timeout {s : State} (h : pollOutcome s = .timeout) : pollReturn s = s := if_neg (by simp [h])

theorem pollReturn_of_exchange {s : State} (h : s.ret ≠ .bCheck) : pollReturn s = s := if_neg fun hread => h hread.2

/-- The status poll is a run of steps (R153). -/
theorem reaches_pollLoop (n : Nat) {s : State} (hcnt : s.pollCnt = n)
    (hseq : s.seq = .xSend ∨ (s.seq = .xPoll ∧ validStatus s.status = false)) : Reaches s (pollReturn (pollLoop n s)) := by
  induction n generalizing s with
  | zero =>
    have hnone : pollOutcome s = .timeout := by rcases hseq with h | ⟨h, hskip⟩ <;> simp [pollOutcome, *]
    rw [pollLoop, pollReturn_of_timeout hnone]
    exact .refl s
  | succ n ih =>
    have hstep := step_statusPoll ((statusPolling_iff s).mpr ⟨by omega, hseq⟩)
    rw [pollAttempt_eq_pollReturn] at hstep
    rw [pollLoop]
    split
    case isTrue => exact .of_step hstep
    case isFalse hskip =>
      have hinvalid : validStatus (s.rxAt 0) = false := by simpa using hskip
      have htimeout : pollOutcome (statusByte (s.rxAt 0) (s.rxDrop 1)) = .timeout := by
        simp [pollOutcome, statusByte, emit, hinvalid]
      rw [pollReturn_of_timeout htimeout] at hstep
      exact .head hstep (ih (congrArg Nat.pred hcnt) (.inr ⟨rfl, hinvalid⟩))

/-- XR1 is a run of steps from the acquisition on (R152). -/
theorem reaches_xr1 {c : BitVec 6} {a : BitVec 32} {s : State} (hcmd : s.cmd = c) (harg : s.arg = a) :
    Reaches (acquireBus s) (pollReturn (xr1 c a s)) := by
  subst hcmd harg
  have hsend : step (pulse (acquireBus s)) = .next (commandSent s.cmd s.arg s) := step_frame (s := pulse (acquireBus s)) rfl
  rw [xr1_eq_pollLoop]
  exact .head (step_pulse rfl) (.head hsend (reaches_pollLoop s.ctxTb (commandSent_pollCnt ..) (.inl (commandSent_seq ..))))

/-! ### The exchange -/

/-- An exchange returns to the host or to INIT. -/
def exchangeRet (q : Seq) : Bool := decide (q = .idle) || handshakeReturn q

theorem ne_bCheck_of_exchangeRet {q : Seq} (h : exchangeRet q = true) : q ≠ .bCheck := by
  rintro rfl
  cases h

/-- The load of ATT_CNT is made at the return into step 2 only (R170). -/
theorem enterNegotiation_of_seq_ne {s : State} (h : s.seq ≠ .iS2) : enterNegotiation s = s := if_neg fun hload => h hload.1

/-- An exchange ends by its own ending, whoever called it (R155, R209). -/
theorem conclude_of_exchangeRet (r : Result) {s : State} (hheld : s.busHeld = true) (hret : exchangeRet s.ret = true) :
    conclude r s = enterNegotiation (endExchange r (drawIfOpen r s)) := by
  cases hcall : handshakeReturn s.ret with
  | true => exact conclude_of_call r hheld hcall
  | false =>
    have hidle : s.ret = .idle := by simpa [exchangeRet, hcall] using hret
    obtain ⟨resp, d, hdraw, -⟩ := exists_drawIfOpen_eq r s
    rw [conclude_of_host r (.inr hcall), hdraw, enterNegotiation_of_seq_ne (by simp [hidle]), finish_eq, endExchange_eq]
    simp only [hidle]

theorem reaches_conclude_of_exchangeRet {r : Result} {s : State} (hdue : dueClass s = some r) (hr : r ≠ .checksumError)
    (hheld : s.busHeld = true) (hret : exchangeRet s.ret = true) :
    Reaches s (enterNegotiation (endExchange r (drawIfOpen r s))) :=
  .of_step (by rw [step_of_dueClass hdue hr, conclude_of_exchangeRet r hheld hret])

/-- What XR1 leaves, whatever RX answers: the poll open with its budget spent, or a response due. -/
structure PollEnds (s u : State) : Prop where
  busHeld : u.busHeld = true
  kept : u.ret = s.ret ∧ u.rlen = s.rlen
  spent : pollOutcome u = .timeout → dueClass u = some .timeout ∧ (u.seq = .xSend ∨ u.seq = .xPoll)
  found : pollOutcome u = .success → responseDue u = true

theorem pollEnds_xr1 (c : BitVec 6) (a : BitVec 32) (s : State) : PollEnds s (xr1 c a s) := by
  rcases exists_firstValid_or_allSkip s 0 s.ctxTb with ⟨k, hk, hvalid⟩ | hskip
  case inl =>
    have hfound := pollOutcome_xr1_of_firstValid c a hk hvalid
    have hbyte : (s.rxAt k).getLsbD 7 = false := by simpa using hvalid.2
    have hdue : responseDue (xr1 c a s) = true := by
      rw [xr1_eq_polled c a hk hvalid, responseDue_iff]
      exact ⟨rfl, hbyte⟩
    refine ⟨?_, ?_, fun hno => absurd (hno.symm.trans hfound) (by decide), fun _ => hdue⟩ <;>
      rw [xr1_eq_polled c a hk hvalid]
    · rfl
    · exact ⟨rfl, rfl⟩
  case inr =>
    have hspent := pollOutcome_xr1_of_allSkip c a hskip
    obtain ⟨st, d, heq, hlast⟩ := exists_xr1_eq_polled c a hskip
    have hcnt : (xr1 c a s).pollCnt = 0 := by rw [heq]; exact Nat.sub_self _
    have hseq : (xr1 c a s).seq = .xSend ∨ ((xr1 c a s).seq = .xPoll ∧ validStatus (xr1 c a s).status = false) := by
      rw [heq, polled]
      cases htb : s.ctxTb with
      | zero => exact .inl rfl
      | succ n =>
        obtain ⟨hst, -⟩ := hlast (by omega)
        have hbyte := hskip n (by omega)
        rw [Nat.zero_add] at hbyte
        refine .inr ⟨rfl, (validStatus_eq_false_iff _).mpr ?_⟩
        rw [hst, htb]
        exact hbyte
    refine ⟨by rw [heq]; rfl, by rw [heq]; exact ⟨rfl, rfl⟩,
      fun _ => ⟨dueClass_of_pollSpent hcnt hseq, hseq.imp_right And.left⟩,
      fun hno => absurd (hno.symm.trans hspent) (by decide)⟩

/-- An exchange is a run of steps from its acquisition to its return (R155, R156). -/
theorem reaches_xcmdCall {ret : Seq} (c : BitVec 6) (a : BitVec 32) (n : Nat) (s : State) (hret : exchangeRet ret = true) :
    Reaches (beginExchange ret c a n s) (enterNegotiation (xcmdCall ret c a n s)) := by
  obtain ⟨hheld, ⟨huret, hlen⟩, hspent, hfound⟩ := pollEnds_xr1 c a (loadExchange ret c a n s)
  have hpoll : Reaches (beginExchange ret c a n s) (pollReturn (xr1 c a (loadExchange ret c a n s))) := reaches_xr1 rfl rfl
  rw [xcmdCall, xcmdBody]
  generalize xr1 c a (loadExchange ret c a n s) = u at *
  have huret : u.ret = ret := huret
  have hlen : u.rlen = n := hlen
  subst huret hlen
  rw [pollReturn_of_exchange (ne_bCheck_of_exchangeRet hret)] at hpoll
  refine hpoll.trans ?_
  split_ifs with htimeout hone
  case pos =>
    obtain ⟨hdue, hseq⟩ := hspent ((pollOutcome_cases u).resolve_left htimeout)
    have hopen : exchangeOpen u = true := by
      have hne := ne_bCheck_of_exchangeRet hret
      rcases hseq with h | h <;> simp [exchangeOpen, h, hne]
    have hdraw : drawIfOpen .timeout u = drawResp u := if_pos ⟨rfl, hopen⟩
    rw [← hdraw]
    exact reaches_conclude_of_exchangeRet hdue (by decide) hheld hret
  case pos =>
    have hdue := hfound (not_not.mp htimeout)
    rw [← drawIfOpen_success (storeStatus u), ← conclude_of_exchangeRet .success (s := storeStatus u) hheld hret]
    exact .of_step (step_responseOne hdue hone)
  case neg =>
    have hdue := hfound (not_not.mp htimeout)
    rw [← drawIfOpen_success (takePayload u.rlen u)]
    exact .head (step_responseMore hdue hone)
      (reaches_conclude_of_exchangeRet (s := takePayload u.rlen u) rfl (by decide) hheld hret)

theorem reaches_xcmdCall_of_ne {ret : Seq} (c : BitVec 6) (a : BitVec 32) (n : Nat) (s : State) (hret : exchangeRet ret = true)
    (hne : ret ≠ .iS2) : Reaches (beginExchange ret c a n s) (xcmdCall ret c a n s) := by
  have hcall := reaches_xcmdCall c a n s hret
  obtain ⟨-, hseq, -⟩ := xcmdCall_ends ret c a n s
  rwa [enterNegotiation_of_seq_ne (by rwa [hseq])] at hcall

/-! ### The block read -/

/-- What follows the token poll (R193, R194). -/
def readEnd : Bool × State → State
  | (found, s) => if !found then finish .timeout s else if s.token ≠ startToken then finish .badResponse s
    else finish .success (readData s)

theorem readAfterStatus_eq_readEnd (s : State) : readAfterStatus s = readEnd (tokenLoop s.cfg.tokenPolls (loadTokenBudget s)) :=
  readAfterStatus_of_tokenLoop rfl

/-- After the start token the data are received, drained or not, and the block read succeeds (R194, R195). -/
theorem reaches_finish_readData {s : State} (hseq : s.seq = .bToken) (hret : s.ret = .bCheck) (hstart : s.token = startToken) :
    Reaches s (finish .success (readData s)) := by
  refine .head (step_takeData hseq hstart) ?_
  have hretAfter : (takeData s).ret = .bCheck := hret
  rw [readData]
  split
  case isTrue hdrain =>
    exact .head (step_drain rfl hdrain) (.finish_of_blockRead (s := drainChecksum (takeData s)) rfl (by decide) hret)
  case isFalse hdrain => exact .of_step (step_takeData_undrained hret (by simpa using hdrain))

/-- The token poll and what follows it are a run of steps (R190 to R195). -/
theorem reaches_readEnd (n : Nat) {s : State} (hret : s.ret = .bCheck) (hcnt : s.pollCnt = n)
    (hseq : (s.seq = .bCheck ∧ s.status = 0#8) ∨ (s.seq = .bToken ∧ isFiller s.token = true)) :
    Reaches s (readEnd (tokenLoop n s)) := by
  induction n generalizing s with
  | zero =>
    refine .finish_of_blockRead ?_ (by decide) hret
    rcases hseq with ⟨h, hgood⟩ | ⟨h, hfiller⟩ <;> simp [dueClass, *]
  | succ n ih =>
    refine .head (step_token ((tokenPolling_iff s).mpr ⟨by omega, hseq⟩)) ?_
    rw [tokenLoop]
    split
    case isTrue hfiller => exact ih hret (congrArg Nat.pred hcnt) (.inr ⟨rfl, hfiller⟩)
    case isFalse hfiller =>
      rw [isFiller_iff] at hfiller
      rw [readEnd, if_neg (by simp)]
      split
      case isTrue hother => exact .of_step (step_badToken rfl hret hfiller hother)
      case isFalse hstart => exact reaches_finish_readData rfl hret (not_not.mp hstart)

/-- Where SEQ stood before the token poll is no part of what the block read leaves. -/
theorem readAfterStatus_setSeq (q : Seq) (s : State) : readAfterStatus { s with seq := q } = readAfterStatus s := by
  rw [readAfterStatus_eq_readEnd, readAfterStatus_eq_readEnd]
  dsimp only
  cases s.cfg.tokenPolls with
  | zero => simp only [tokenLoop, readEnd, finish_eq]; rfl
  | succ n => rfl

/-- A block read is a run of steps from its acquisition on (R190). -/
theorem reaches_rdblk (a : BitVec 32) (s : State) : Reaches (acquireBus (loadRead a s)) (rdblk a s) := by
  obtain ⟨-, ⟨hret, -⟩, hspent, -⟩ := pollEnds_xr1 readCmd a (loadRead a s)
  have hpoll : Reaches (acquireBus (loadRead a s)) (pollReturn (xr1 readCmd a (loadRead a s))) := reaches_xr1 rfl rfl
  rw [rdblk]
  generalize xr1 readCmd a (loadRead a s) = u at *
  have hret : u.ret = .bCheck := hret
  refine hpoll.trans ?_
  rcases pollOutcome_cases u with hfound | htimeout
  case inr =>
    obtain ⟨hdue, -⟩ := hspent htimeout
    rw [htimeout, if_pos (by decide), pollReturn_of_timeout htimeout]
    exact .finish_of_blockRead hdue (by decide) hret
  case inl =>
    rw [hfound, if_neg (by decide), pollReturn, if_pos ⟨hfound, hret⟩, enterBlockCheck]
    by_cases hgood : u.status = 0#8
    · rw [if_pos hgood, if_neg (not_not.mpr hgood), ← readAfterStatus_setSeq .bCheck, readAfterStatus_eq_readEnd]
      exact reaches_readEnd _ hret rfl (.inl ⟨rfl, hgood⟩)
    · have hend : finish .badResponse u = finish .badResponse { u with seq := .bCheck } := by rw [finish_eq, finish_eq]
      rw [if_neg hgood, if_pos hgood, hend]
      exact .finish_of_blockRead (by simp [dueClass, hgood]) (by decide) hret

/-! ### INIT -/

/-- A class a failed exchange passes on is its own (R170). -/
theorem exchangeFailed_ne {s : State} {r : Result} (hs : s.result ≠ .checksumError) (h : exchangeFailed s = some r) :
    r ≠ .checksumError := by
  rw [exchangeFailed] at h
  split_ifs at h
  cases h
  exact hs

theorem resetTest_ne {s : State} {r : Result} (hs : s.result ≠ .checksumError) (h : resetTest s = some r) :
    r ≠ .checksumError := by
  rw [resetTest] at h
  split at h
  case h_1 r' hfailed => cases h; exact exchangeFailed_ne hs hfailed
  case h_2 => split_ifs at h; cases h; decide

theorem interfaceTest_ne {s : State} {r : Result} (hs : s.result ≠ .checksumError) (h : interfaceTest s = some r) :
    r ≠ .checksumError := by
  rw [interfaceTest] at h
  split at h
  case h_1 r' hfailed => cases h; exact exchangeFailed_ne hs hfailed
  case h_2 => split_ifs at h; cases h; decide

theorem capacityTest_ne {s : State} {r : Result} (hs : s.result ≠ .checksumError) (h : capacityTest s = some r) :
    r ≠ .checksumError := by
  rw [capacityTest] at h
  split at h
  case h_1 r' hfailed => cases h; exact exchangeFailed_ne hs hfailed
  case h_2 => split_ifs at h <;> cases h <;> decide

/-- What INIT's tests find where an exchange has returned to `ret`. -/
structure Returned (ret : Seq) (s : State) : Prop where
  seq : s.seq = ret
  busHeld : s.busHeld = false
  result : s.result ≠ .checksumError

theorem returned_xcmdCall (ret : Seq) (c : BitVec 6) (a : BitVec 32) (n : Nat) (s : State) :
    Returned ret (xcmdCall ret c a n s) := by
  obtain ⟨hresult, hseq, hheld⟩ := xcmdCall_ends ret c a n s
  exact ⟨hseq, hheld, ne_checksumError_of_or hresult (by decide) (by decide)⟩

/-- An ending of INIT outside its exchanges (R209). -/
theorem Returned.reaches_finish {ret : Seq} {s : State} (h : Returned ret s) (hret : handshakeReturn ret = true) {r : Result}
    (hdue : dueClass s = some r) (hr : r ≠ .checksumError) : Reaches s (finish r s) := by
  refine .finish_of_dueClass hdue hr h.busHeld ?_
  rw [exchangeOpen, h.seq]
  cases ret with
  | xSend | xPoll => cases hret
  | _ => rfl

/-- Steps 4 and 5 (R177, R178, R181). -/
theorem reaches_initFinish {s : State} (h : Returned .iS3B s) (hready : cardReady s = true) : Reaches s (initFinish s) := by
  have hreturned : Returned .iS4 (callCapacity s) := returned_xcmdCall ..
  refine .head (step_ready h.seq hready) ((reaches_xcmdCall_of_ne 58#6 zeroArg 5 s rfl (by decide)).trans ?_)
  change Reaches (callCapacity s) (initFinish s)
  rw [initFinish]
  generalize callCapacity s = u at *
  split
  case h_1 r htest =>
    exact hreturned.reaches_finish rfl (by rw [dueClass, hreturned.seq]; exact htest) (capacityTest_ne hreturned.result htest)
  case h_2 htest =>
    have hend : finish .success (configure u.ctxDiv u) = finish .success (configure u.ctxDiv { u with seq := .iS5 }) := by
      rw [finish_eq, finish_eq]
      rfl
    rw [hend]
    exact .head (step_capacityDone hreturned.seq htest) (.finish_of_dueClass rfl (by decide) hreturned.busHeld rfl)

/-- What follows the negotiation (R175, R176). -/
def negotiationEnd : Bool × State → State
  | (ready, s) => if ready then initFinish s else finish .timeout s

/-- One attempt is a run of steps (R174). -/
theorem reaches_attempt (s : State) : Reaches (beginAttempt s) (attempt s) := by
  have hprefix : Reaches (beginAttempt s) (callPrefix { s with attCnt := s.attCnt - 1 }) :=
    reaches_xcmdCall_of_ne 55#6 zeroArg 1 _ rfl (by decide)
  have hreturned : Returned .iS3A (callPrefix { s with attCnt := s.attCnt - 1 }) := returned_xcmdCall ..
  exact hprefix.trans (.head (step_prefixDone hreturned.seq) (reaches_xcmdCall_of_ne 41#6 hcsArg 1 _ rfl (by decide)))

/-- The negotiation and what follows it are a run of steps (R174 to R176). -/
theorem reaches_negotiationEnd (m : Nat) {s : State} (hatt : s.attCnt = m)
    (h : (Returned .iS2 s ∧ interfaceTest s = none) ∨ (Returned .iS3B s ∧ cardReady s = false)) :
    Reaches s (negotiationEnd (negotiate m s)) := by
  induction m generalizing s with
  | zero =>
    rcases h with ⟨hreturned, htest⟩ | ⟨hreturned, hready⟩
    · exact hreturned.reaches_finish rfl (by simp [dueClass, hreturned.seq, htest, hatt]) (by decide)
    · exact hreturned.reaches_finish rfl (by simp [dueClass, hreturned.seq, hready, hatt]) (by decide)
  | succ m ih =>
    have hbegin : step s = .next (beginAttempt s) := by
      rcases h with ⟨hreturned, htest⟩ | ⟨hreturned, hready⟩
      · exact step_interfaceDone hreturned.seq htest (by omega)
      · exact step_notReady hreturned.seq hready (by omega)
    have hreturned : Returned .iS3B (attempt s) := returned_xcmdCall ..
    obtain ⟨hspent, -⟩ := attempt_counts s
    refine .head hbegin ((reaches_attempt s).trans ?_)
    rw [negotiate]
    split
    case isTrue hready =>
      rw [negotiationEnd, if_pos rfl]
      exact reaches_initFinish hreturned hready
    case isFalse hready => exact ih (by omega) (.inr ⟨hreturned, by simpa using hready⟩)

/-- Step 2 and on (R173). -/
theorem reaches_initInterface {s : State} (h : Returned .iS1 s) (htest : resetTest s = none) : Reaches s (initInterface s) := by
  have hreturned : Returned .iS2 (callInterface s) := returned_xcmdCall ..
  refine .head (step_resetDone h.seq htest) ((reaches_xcmdCall 8#6 checkArg 5 s rfl).trans ?_)
  change Reaches (enterNegotiation (callInterface s)) (initInterface s)
  rw [initInterface]
  generalize callInterface s = u at *
  split
  case h_1 r htest =>
    rw [enterNegotiation, if_neg (by simp [htest])]
    exact hreturned.reaches_finish rfl (by simp [dueClass, hreturned.seq, htest]) (interfaceTest_ne hreturned.result htest)
  case h_2 htest =>
    rw [enterNegotiation, if_pos ⟨hreturned.seq, htest⟩]
    exact reaches_negotiationEnd _ rfl (.inl ⟨⟨hreturned.seq, hreturned.busHeld, hreturned.result⟩, htest⟩)

/-- Step 1 and on (R172). -/
theorem reaches_initReset (s : State) : Reaches (beginExchange .iS1 0#6 zeroArg 1 s) (initReset s) := by
  have hreturned : Returned .iS1 (callReset s) := returned_xcmdCall ..
  refine (reaches_xcmdCall_of_ne 0#6 zeroArg 1 s rfl (by decide)).trans ?_
  change Reaches (callReset s) (initReset s)
  rw [initReset]
  generalize callReset s = u at *
  split
  case h_1 r htest =>
    exact hreturned.reaches_finish rfl (by rw [dueClass, hreturned.seq]; exact htest) (resetTest_ne hreturned.result htest)
  case h_2 htest => exact reaches_initInterface hreturned htest

/-- INIT is a run of steps from its first configuration on (R170). -/
theorem reaches_initOperation (b o : Div) (n : Nat) (s : State) : Reaches (initBegin b o n s) (initOperation b o n s) := by
  have hclocks : (initBegin b o n s).cfg.preambleClocks = s.cfg.preambleClocks := rfl
  have hret : (initBegin b o n s).ret = if s.cfg.preambleClocks = 0 then .iS1 else .idle := rfl
  have hstep := step_initBegun (s := initBegin b o n s) rfl
  rw [initOperation, hclocks]
  split
  case isTrue hnone =>
    rw [hret, if_pos hnone, if_pos rfl] at hstep
    exact .head hstep (reaches_initReset _)
  case isFalse hsome =>
    rw [hret, if_neg hsome, if_neg (by decide)] at hstep
    exact .head hstep (.head (step_initBegun rfl) (reaches_initReset _))

/-! ### The operations -/

/-- From its first event every operation of the host runs to its end. -/
theorem exists_begin_of_operationCase {i : Instr} {s t : State} (hissue : hostMayIssue i = true) (hmsg : s.msgIn = [])
    (h : OperationCase i s t) : ∃ u, beginOperation i s = .next u ∧ Reaches u t := by
  cases h with
  | @crc7 m hi hfree =>
    subst hi
    exact ⟨_, by simp only [beginOperation, (admitted_eq_none_iff s).mpr hfree], reaches_crcOperation m hfree.1 hmsg⟩
  | frame hi => subst hi; exact ⟨_, rfl, .refl _⟩
  | xr1 hi => subst hi; cases hissue
  | @xcmd c a n hi hfree hctx hn hn' =>
    subst hi
    exact ⟨_, by simp only [beginOperation, xcmdAdmitted_eq_none hfree hctx hn hn'],
      reaches_xcmdCall_of_ne c a n s rfl (by decide)⟩
  | @rdblk a hi hfree hctx =>
    subst hi
    have hadmitted : rdblkAdmitted s = none := by simp [rdblkAdmitted_of_free hfree, hctx]
    exact ⟨_, by simp only [beginOperation, hadmitted], reaches_rdblk a s⟩
  | @init b o n hi hfree =>
    subst hi
    exact ⟨_, by simp only [beginOperation, (admitted_eq_none_iff s).mpr hfree], reaches_initOperation b o n s⟩

/-- Settles O55: the first event at the host port, and then the run of the operation's steps. -/
theorem eventGrainRunsTheOperation : Obligations.EventGrainRunsTheOperation := by
  intro s t r rest i hquiet hgrain hhost hdecode hissue hexec
  obtain ⟨hseq, -, -, hmsg⟩ := hquiet
  have hcase : OperationCase i (takeRequest r rest s) t := operationCase_of_exec hseq hexec
  obtain ⟨u, hbegin, hrun⟩ := exists_begin_of_operationCase hissue (s := takeRequest r rest s) hmsg hcase
  have hstep : step s = .next u := (step_hostEvent hseq hgrain hhost hdecode hissue).trans hbegin
  exact (Reaches.head hstep hrun).exists_run

end Sys2Proof.Machine
